-- ==== Sys2Proof/Word.lean ====
section
/-! DEFINITION. The words of the VBL4 datasheet: bytes, 32-bit register words, 48-bit memory addresses and the
numbers of the part's links, lines, read tags and write slots (sections 0.3 and 0.5 of the spec). -/

namespace Sys2Proof

/-- A byte of a record, of a staging line or of a link port. -/
abbrev Byte := BitVec 8

/-- A 32-bit register word (R194) or a 32-bit counter (R60, R104, R122, R140, R186). -/
abbrev Word := BitVec 32

/-- A 48-bit byte address (R180). -/
abbrev Addr := BitVec 48

/-- L0 to L3, and with them T0 to T3. -/
abbrev LinkId := Fin 4

/-- The sixteen staging lines (R37). -/
abbrev LineId := Fin 16

/-- A read tag or a write slot (R182). -/
abbrev BusNo := Fin 8

end Sys2Proof
end

