-- ==== Sys2Proof/Config.lean ====
section
/-! DEFINITION. What an implementation of the VBL4 fixes, and the values the spec leaves open. An open value is an
uninterpreted constant: nothing can be proved of it, so every claim holds whatever the part does there. The
numbers below are the spec's own (sections 0.3 and 11). -/

namespace Sys2Proof.Config

/-- The 64 data bytes of a staging line after hardware reset, which the table after R62 calls undefined. The first
argument is the model's count of open values (State.openValues), the second the line's number. -/
opaque undefinedLineData (count : Nat) (line : Nat) : Vector Byte 64

/-- Whether the first of two error events that one event raises together is the one taken first: R159 lets either
be. The argument is the model's count of open values (State.openValues). -/
opaque firstEventFirst (count : Nat) : Bool

/-- The address that the error log takes for a mismatch point at an entry index whose address, table_address + 16 ×
index, is 2^48: R29 gives the sum, which does not fit the log's 48-bit address (R158, log 28). -/
opaque addressPastReach (index : Nat) : Addr

/-- Slots of a transfer ring's descriptor window (R10), and entries of a segment window (R25). -/
def windowSize : Nat := 4

/-- Records a status ring's pending list holds (R128). -/
def pendingSize : Nat := 8

/-- Read tags that line fills, and write slots that line stores, may keep BUSY at one time (R188). -/
def classCLimit : Nat := 6

/-- The memory response limit in ms (R183). -/
def responseLimit : Nat := 1

/-- The settle wait's limit in ms (R199). -/
def settleLimit : Nat := 10

/-- The highest address in reach, plus one (R20). -/
def reach : Nat := 2 ^ 48

/-- The largest byte_count (R19). -/
def maxByteCount : Nat := 1048576

/-- The largest segment length (R20). -/
def maxSegment : Nat := 65536

/-- The largest value of a 32-bit saturating counter (R60). -/
def counterMax : Nat := 0xFFFFFFFF

/-- IDENT: vendor code 0D3Ah, part code 04h, revision 01h (R194). -/
def ident : Word := 0x01040D3A

end Sys2Proof.Config
end

