-- ==== Sys2Proof/Syntax.lean ====
section
/-! DEFINITION. The commands of the block: one constructor for each row of spec/opcode_table.json, in the table's
order. A command is one event at the part's edges (a register write, an end that memory delivers, the expiry of a
timer, an edge at a port) or one act of the part's own arbiters, which spec/95 lists as steps of their own. -/

namespace Sys2Proof

/-- The levels of one port's four inputs (R63); true is high. -/
structure PinLevels where
  busy : Bool
  ack : Bool
  attn : Bool
  fault : Bool
deriving DecidableEq, Repr

/-- The levels of the four ports' inputs as an event finds them. Of these the part takes only the changes for which
the table has no row: BUSY having risen, and ACK#, ATTN and FAULT# having done the opposite of the edge that the
part senses (State.sense). A sensed edge reaches the part by its own row. -/
abbrev Levels := Vector PinLevels 4

/-- The end of a read (R181). For DATA the bytes of the read are the first ones of the 64, as many as its length. -/
inductive ReadEnd where
  | data (bytes : Vector Byte 64)
  | error
  | timeout
deriving DecidableEq, Repr

/-- The end of a write (R181). -/
inductive WriteEnd where
  | done
  | error
  | timeout
deriving DecidableEq, Repr

/-- The two ways a request fails (R184, R185). -/
inductive MemFailure where
  | error
  | timeout
deriving DecidableEq, Repr

/-- Reads use read tags, writes use write slots (R182). -/
inductive BusKind where
  | read
  | write
deriving DecidableEq, Repr

/-- The five status rings (R123). -/
inductive RingId where
  | sc
  | s (n : LinkId)
deriving DecidableEq, Repr

/-- The commands of the VBL4, one constructor for each row of spec/opcode_table.json. A register write carries the
word written, a fetched control command its read tag and its 32 bytes, a memory end its tag or slot. -/
inductive Instr where
  | run (w : Word)
  | softReset (w : Word)
  | settleWaitEnd
  | hardwareReset
  | transferRingNotify (w : Word)
  | controlRingNotify (w : Word)
  | notifyBadSelector (w : Word)
  | release (w : Word)
  | releaseBadSelector (w : Word)
  | registerWrite (offset : BitVec 5) (bytes : Nat) (w : Word)
  | startRecordReadEnd (tag : BusNo) (e : ReadEnd) (lv : Levels)
  | commandFetchFailed (tag : BusNo) (f : MemFailure) (lv : Levels)
  | unknownCommand (tag : BusNo) (c : Vector Byte 32) (lv : Levels)
  | createStatusRing (tag : BusNo) (c : Vector Byte 32) (lv : Levels)
  | deleteStatusRing (tag : BusNo) (c : Vector Byte 32) (lv : Levels)
  | configureLink (tag : BusNo) (c : Vector Byte 32) (lv : Levels)
  | createTransferRing (tag : BusNo) (c : Vector Byte 32) (lv : Levels)
  | deleteTransferRing (tag : BusNo) (c : Vector Byte 32) (lv : Levels)
  | resumeLink (tag : BusNo) (c : Vector Byte 32) (lv : Levels)
  | abortLink (tag : BusNo) (c : Vector Byte 32) (lv : Levels)
  | setLines (tag : BusNo) (c : Vector Byte 32) (lv : Levels)
  | readCounters (tag : BusNo) (c : Vector Byte 32) (lv : Levels)
  | readErrorLog (tag : BusNo) (c : Vector Byte 32) (lv : Levels)
  | descriptorFetchData (tag : BusNo) (bytes : Vector Byte 64) (lv : Levels)
  | descriptorSlotFetchFailure (tag : BusNo) (f : MemFailure) (lv : Levels)
  | descriptorRereadEnd (tag : BusNo) (e : ReadEnd) (lv : Levels)
  | tableReadData (tag : BusNo) (bytes : Vector Byte 64) (lv : Levels)
  | tableReadFailure (tag : BusNo) (f : MemFailure) (lv : Levels)
  | fillEnd (tag : BusNo) (e : ReadEnd) (lv : Levels)
  | discardPendingFillEnd (tag : BusNo) (e : ReadEnd) (lv : Levels)
  | storeDone (slot : BusNo) (lv : Levels)
  | storeFailure (slot : BusNo) (f : MemFailure) (lv : Levels)
  | statusWriteDone (slot : BusNo) (lv : Levels)
  | statusWriteFailed (slot : BusNo) (f : MemFailure) (lv : Levels)
  | statusRingFailure (slot : BusNo) (f : MemFailure) (lv : Levels)
  | messageWriteEnd (slot : BusNo) (e : WriteEnd) (lv : Levels)
  | counterBlockWriteEnd (slot : BusNo) (e : WriteEnd) (lv : Levels)
  | errorLogWriteEnd (slot : BusNo) (e : WriteEnd) (lv : Levels)
  | responseTimeout (kind : BusKind) (id : BusNo) (lv : Levels)
  | lateResponse (kind : BusKind) (id : BusNo)
  | requestIssue (kind : BusKind) (lv : Levels)
  | lineGrant (lv : Levels)
  | offerAccept (r : RingId) (lv : Levels)
  | descriptorStart (n : LinkId) (lv : Levels)
  | turnaroundEnd (n : LinkId) (lv : Levels)
  | setupEnd (n : LinkId) (lv : Levels)
  | strobeEnd (n : LinkId) (lv : Levels)
  | holdEnd (n : LinkId) (lv : Levels)
  | busyLow (n : LinkId) (lv : Levels)
  | ackPulse (n : LinkId) (lv : Levels)
  | handshakeTimeout (n : LinkId) (lv : Levels)
  | inboundHandshakeTimeout (n : LinkId) (lv : Levels)
  | byteLatch (n : LinkId) (d : Byte) (lv : Levels)
  | attnRising (n : LinkId) (lv : Levels)
  | faultFalling (n : LinkId) (lv : Levels)
  | pulseTimerExpiry (n : LinkId) (lv : Levels)
  | signalWaitMet (n : LinkId) (lv : Levels)
  | signalWaitLimitExpiry (n : LinkId) (lv : Levels)
  | moderationTimerExpiry (r : RingId)
  | resetRelease
deriving DecidableEq, Repr

end Sys2Proof
end

