-- ==== Sys2Proof/Decode.lean ====
section
/-! DEFINITION. The words of the table. No row of spec/opcode_table.json gives bits to its command: a command is an event
at the part's edges or an act of its arbiters, and no word spells one. -/

namespace Sys2Proof

/-- The command that a word spells by the table's bits: none, since the table gives no row any bits. -/
def decodeTableWord (_nbits _w : Nat) : Option Instr := none

end Sys2Proof
end

