-- ==== Sys2Proof/Machine/State.lean ====
section
/-! DEFINITION. The state of the VBL4: everything the spec gives the part, as plain data, and its values right after
hardware reset. An item whose docstring begins "model" is the model's own and is named in the assumption log.
Line requests, store requests, waiting bus requests and the levels of the output pins are not stored: each is a
function of the items below (Machine/Operands.lean and Machine/Bus.lean). -/

namespace Sys2Proof.Machine

/-! ### Codes and enumerations -/

/-- The outcome and log codes of section 11.6.5. -/
inductive Code where
  | ok | endedEarly | waitExpired | cancelled
  | descriptorInvalid | segmentMismatch
  | memoryReadError | memoryWriteError | memoryTimeout
  | linkTimeout | linkFault | linkOverrun
  | attention | errorNotice
  | refusedState | refusedRange | refusedInUse | resourcesUnavailable | unknownCommand
  | notifyRange | notifyUnbound | notifyRetract | releaseRange
  | unsolicitedOverrun | messageWriteFailed | lateResponse | tagsExhausted
  | statusWriteFailed | startReadFailed | startInvalid | controlFetchFailed
deriving DecidableEq, Repr

/-- The detail codes of an INVALID verdict (R11, R23). -/
inductive InvalidCode where
  | kind | count | form | address | mode | signalField
deriving DecidableEq, Repr

/-- The classes of error events (R158). -/
inductive ErrorClass where
  | descriptor | memory | link | register | message | bus | fatal
deriving DecidableEq, Repr

/-- The sources of error events (R158). -/
inductive LogSource where
  | link (n : LinkId)
  | ringUnit (n : LinkId)
  | ring (r : RingId)
  | control
  | bus
  | register
deriving DecidableEq, Repr

/-- The part states of section 11. -/
inductive PartState where
  | dormant | starting | running | halted | resetting
deriving DecidableEq, Repr

/-- The halt causes of STATE (R194). -/
inductive HaltCause where
  | none | startReadFailed | startInvalid | controlFetchFailed | statusWriteFailed
deriving DecidableEq, Repr

/-- The link states (R64). -/
inductive LinkState where
  | unconfigured | stopped | running | holding | held | quiescing
deriving DecidableEq, Repr

/-- The sub-activities of a RUNNING link (R66). -/
inductive SubActivity where
  | idle | turning | sending | receiving | signalling
deriving DecidableEq, Repr

/-- Why a link is held (R141). -/
inductive HoldCause where
  | error | pause | statusLost
deriving DecidableEq, Repr

/-- A link's present direction (R32): DIR 0 or DIR 1. -/
inductive Direction where
  | outbound | inbound
deriving DecidableEq, Repr

/-- The outbound handshakes (R71, R72). -/
inductive Handshake where
  | none | paced | busyOnly | timed
deriving DecidableEq, Repr

/-- The phases of an outbound byte (R64). Under PACED the acknowledge wait begins with STROBE (R71). -/
inductive BytePhase where
  | none | busyWait | setup | strobe | ackWait | busyAfter | hold
deriving DecidableEq, Repr

/-- model: how a byte stopped during STROBE ends when its strobe time runs out: counted as sent (R73) or not
(R74, R78). -/
inductive ByteStop where
  | none | sent | notSent
deriving DecidableEq, Repr

/-- The state of the hold record (R141). -/
inductive HoldRecord where
  | none | owed | offered | done
deriving DecidableEq, Repr

/-- The cancellation in progress (R141). -/
inductive Cancellation where
  | none | flush | abort | delete
deriving DecidableEq, Repr

/-- Why a RECEIVE's gathering ended (R105). -/
inductive EndCause where
  | none | count | attn | error
deriving DecidableEq, Repr

/-- The states of a staging line (R37). -/
inductive LineState where
  | free | filling | ready | draining | failed | discardPending | gathering | sealed | storing
deriving DecidableEq, Repr

/-! ### Descriptors and their copies -/

/-- The descriptor kinds (R18). -/
inductive DescKind where
  | send | receive | signal
deriving DecidableEq, Repr

/-- The two segment forms (R19). -/
inductive SegForm where
  | inline | table
deriving DecidableEq, Repr

/-- What a SIGNAL does to a control output (R22). -/
inductive CtlAction where
  | keep | low | high | pulse
deriving DecidableEq, Repr

/-- The wait conditions of a SIGNAL (R22). -/
inductive WaitCond where
  | none | attnHigh | attnLow | faultHigh | faultLow | busyHigh | busyLow
deriving DecidableEq, Repr

/-- The fields of a descriptor (R18 to R22), read from its 32 bytes. An enumerated field is absent where its value has
no listed meaning (R201). The fields of SEND and RECEIVE and those of SIGNAL overlay one another (section 11.6.2):
both readings are kept, and the kind says which one applies. -/
structure Descriptor where
  kind : Option DescKind
  quiet : Bool
  shortIsError : Bool
  expiryIsError : Bool
  pauseAfter : Bool
  clearAttention : Bool
  tag : BitVec 16
  byteCount : Nat
  form : Option SegForm
  segmentCount : Nat
  addr0 : BitVec 64
  len0 : Nat
  len1 : Nat
  addr1 : BitVec 64
  ctl0 : Option CtlAction
  ctl1 : Option CtlAction
  pulseWidth : Nat
  wait : Option WaitCond
  waitLimit : Nat
deriving DecidableEq, Repr

/-- The verdict of a copy (R11). -/
inductive Verdict where
  | valid
  | invalid (c : InvalidCode)
  | unreadable (f : MemFailure)
deriving DecidableEq, Repr

/-- The execution states of a copy (R12). -/
inductive ExecState where
  | waiting | fillingAhead | current | doneUnretired | failed
deriving DecidableEq, Repr

/-- The code part of a record's detail (R126). -/
inductive Detail where
  | absent
  | invalidCode (c : InvalidCode)
  | segment (i : Nat)
  | fetch
  | errorClass (c : ErrorClass)
  | commandCode (c : Byte)
deriving DecidableEq, Repr

/-- A copy of the descriptor window (R11). bytesDone is absent until it is fixed (R101, R120); detail is the code part
of the failure record that the copy will offer. -/
structure Copy where
  slot : Nat
  desc : Option Descriptor
  verdict : Verdict
  inlineMismatch : Bool
  exec : ExecState
  outcome : Option Code
  detail : Detail
  bytesDone : Option Nat
deriving DecidableEq, Repr

/-- An entry held in a segment window, with its index in the table (R21, R25). -/
structure SegEntry where
  index : Nat
  addr : Addr
  length : Nat
deriving DecidableEq, Repr

/-- The outstanding table read of a cursor: none, one whose end is used, or one whose window has been emptied meanwhile
and whose end is dropped (R25, R30). -/
inductive TableRead where
  | none | live | dropped
deriving DecidableEq, Repr

/-- A segment window (R25). The mismatch point is an entry index with an outcome. -/
structure SegWindow where
  entries : List SegEntry
  next : Nat
  sum : Nat
  mismatch : Option (Nat × Code)
  read : TableRead
deriving DecidableEq, Repr

/-- The re-read of a FAILED front copy that RESUME LINK with RETRY asks for (R17). -/
inductive Reread where
  | none | wanted | outstanding
deriving DecidableEq, Repr

/-- A ring unit (R1). -/
structure RingUnit where
  bound : Bool
  base : Addr
  size : Nat
  head : Nat
  fetched : Nat
  tail : Nat
  statusRing : Option LinkId
  window : List Copy
  fetchOutstanding : Bool
  reread : Reread
  fillWindow : SegWindow
  storeWindow : SegWindow
deriving DecidableEq, Repr

/-! ### Status records and offers -/

/-- The record kinds (R126). -/
inductive RecordKind where
  | completion | event | result
deriving DecidableEq, Repr

/-- The sources of status records (R126). -/
inductive RecordSource where
  | link (n : LinkId)
  | control
deriving DecidableEq, Repr

/-- The line snapshot (R86, section 11.6.4); true is high, or set. -/
structure Snapshot where
  busy : Bool
  ack : Bool
  attn : Bool
  fault : Bool
  dir : Bool
  ctl0 : Bool
  ctl1 : Bool
  latch : Bool
deriving DecidableEq, Repr

/-- A status record as its producer makes it (R126); the phase is set at issue. -/
structure StatusRecord where
  kind : RecordKind
  source : RecordSource
  tag : BitVec 16
  outcome : Code
  bytesDone : Nat
  ringHead : Nat
  snapshot : Snapshot
  holdCause : Option HoldCause
  detail : Detail
deriving DecidableEq, Repr

/-- What a link's offer is for: the COMPLETION of a copy that retires with it, the hold record of a hold with cause
ERROR (R145), the PAUSE hold record (R148), the STATUS_LOST hold record (R149), or an ATTENTION record (R80). -/
inductive Purpose where
  | retire | holdRecord | pause | statusLost | attention
deriving DecidableEq, Repr

/-- A standing offer of a link (R127). -/
structure Offer where
  purpose : Purpose
  record : StatusRecord
deriving DecidableEq, Repr

/-! ### Link engines -/

/-- The configuration of a link (R64). -/
structure LinkConfig where
  handshake : Handshake
  inboundEnabled : Bool
  setup : Nat
  strobe : Nat
  hold : Nat
  turnaround : Nat
  timeout : Nat
  faultStops : Bool
  reserve : Nat
  ceiling : Nat
  depth : Nat
  ctl0Initial : Bool
  ctl1Initial : Bool
deriving DecidableEq, Repr

/-- The position of a cursor (R88, R105): idle, in the descriptor of a slot at a segment and a byte of it, or at the
end of that descriptor. A cursor that stands at its mismatch point is in the descriptor at the point's index. -/
inductive Cursor where
  | idle
  | inside (slot seg off : Nat)
  | atEnd (slot : Nat)
deriving DecidableEq, Repr

/-- A link engine (R64, R88, R105, R141). A timer is absent when stopped and otherwise holds the time it was started
with. The offers are the standing ones, oldest first (R127). -/
structure Link where
  state : LinkState
  sub : SubActivity
  holdCause : Option HoldCause
  config : LinkConfig
  dir : Direction
  phase : BytePhase
  phaseTimer : Option Nat
  /-- model: an ACK# pulse has ended since STROBE began (R71). -/
  ackSeen : Bool
  stop : ByteStop
  /-- the byte last driven on D0 to D7 since the direction was taken (R67). -/
  lastByte : Byte
  handshakeTimer : Option Nat
  turnTimer : Option Nat
  ctl0 : Bool
  ctl1 : Bool
  restore0 : Option Bool
  restore1 : Option Bool
  pulseTimer : Option Nat
  wait : Option WaitCond
  limitTimer : Option Nat
  attnLatch : Bool
  attnOwed : Bool
  lines : List LineId
  fillCursor : Cursor
  sentCount : Nat
  gathering : Bool
  storeCursor : Cursor
  gathered : Nat
  breakPos : Option Nat
  endCause : EndCause
  heldCopy : Option Nat
  holdRecord : HoldRecord
  cancellation : Cancellation
  snapshot : Option Nat
  offers : List Offer
  bytesOut : Word
  bytesIn : Word
  descOk : Word
  descFailed : Word
  linkTimeouts : Word
  linesDiscarded : Word
deriving DecidableEq, Repr

/-! ### The staging line pool -/

/-- A staging line (R37): its record and its 64 data bytes, and the offset of its first byte in its RECEIVE's data
stream, which the link engine keeps for each line of its list (R105). -/
structure Line where
  state : LineState
  owner : Option LinkId
  descSlot : Nat
  address : Addr
  length : Nat
  offset : Nat
  error : Option Code
  last : Bool
  startOffset : Nat
  data : Vector Byte 64
deriving DecidableEq, Repr

/-! ### The status unit -/

/-- The states of a status ring (R123). -/
inductive RingState where
  | absent | active | failed
deriving DecidableEq, Repr

/-- The interrupt states (R123). -/
inductive IntState where
  | armed | moderating | signalled
deriving DecidableEq, Repr

/-- The producers of status records, in the order of R128. -/
inductive Producer where
  | link (n : LinkId)
  | control
  | log
deriving DecidableEq, Repr

/-- A status ring (R123). The moderation timer holds its time in units of 10 µs. -/
structure StatusRing where
  state : RingState
  base : Addr
  size : Nat
  tail : Nat
  releasedHead : Nat
  phase : Bool
  unreleased : Nat
  pending : List StatusRecord
  pointer : Producer
  writeOutstanding : Option Nat
  intState : IntState
  msgAddr : Addr
  msgData : Word
  modCount : Nat
  modDelay : Nat
  written : Nat
  modTimer : Option Nat
  msgDue : Bool
  msgOutstanding : Bool
deriving DecidableEq, Repr

/-! ### The error log -/

/-- An error event (R158). -/
structure ErrorEvent where
  cls : ErrorClass
  code : Code
  source : LogSource
  tag : Option (BitVec 16)
  address : Option Addr
  detail : Option Word
deriving DecidableEq, Repr

/-- The error log (R158). The repeat flags stand in the order of the classes. -/
structure ErrorLog where
  first : Option ErrorEvent
  further : Nat
  repeats : Vector Bool 7
  noticeLatch : Bool
  sinceCapture : Bool
deriving DecidableEq, Repr

/-! ### The control processor -/

/-- The states of the control processor (R161). -/
inductive ProcState where
  | idle | fetching | executing | offering
deriving DecidableEq, Repr

/-- What commands 9 and 10 captured (R161). -/
inductive Capture where
  | none
  | counters (v : Vector Word 26)
  | log (l : ErrorLog)
deriving DecidableEq, Repr

/-- model: how far a write of READ COUNTERS or READ ERROR LOG has come (R177, R179). -/
inductive WriteStage where
  | idle | offered | issued | ended
deriving DecidableEq, Repr

/-- The control processor (R161). failure is the outcome of the first of the command's writes to fail (R177);
resultOffer is its standing RESULT (R127). -/
structure Control where
  base : Addr
  size : Nat
  head : Nat
  fetched : Nat
  tail : Nat
  state : ProcState
  current : Option (Vector Byte 32)
  outcome : Option Code
  capture : Capture
  write0 : WriteStage
  write1 : WriteStage
  failure : Option Code
  resultOffer : Option StatusRecord
deriving DecidableEq, Repr

/-! ### The system bus master -/

/-- The states of a read tag or write slot (R182). -/
inductive IdState where
  | free | busy | stale
deriving DecidableEq, Repr

/-- The request classes (R180). -/
inductive ReqClass where
  | a | b | c
deriving DecidableEq, Repr

/-- The two cursors of a link with segment windows (R25). -/
inductive CursorKind where
  | fill | store
deriving DecidableEq, Repr

/-- The routes of ends (R191). The route of a status write or message write holds whether its ring still is the one
that issued it: a ring deleted since gets no end (R124). -/
inductive Route where
  | startRecord
  | command
  | descriptor (n : LinkId) (slot count : Nat)
  | reread (n : LinkId) (slot : Nat)
  | table (n : LinkId) (c : CursorKind) (first count : Nat)
  | fill (l : LineId)
  | status (r : RingId) (slot : Nat) (live : Bool)
  | message (r : RingId) (live : Bool)
  | counters (second : Bool)
  | log
  | store (l : LineId)
deriving DecidableEq, Repr

/-- A read tag or a write slot (R182). The response timer holds its time in ms. The data are those of the write
(R180); a read tag holds none. -/
structure Ident where
  state : IdState
  cls : Option ReqClass
  address : Addr
  length : Nat
  route : Option Route
  timer : Option Nat
  data : List Byte
deriving DecidableEq, Repr

/-- The requesters the class arbiter visits (R189). -/
inductive Requester where
  | link (n : LinkId)
  | group
deriving DecidableEq, Repr

/-- The members of the group (R189). -/
inductive Member where
  | control
  | ring (r : RingId)
deriving DecidableEq, Repr

/-- The round-robin pointers of the class arbiter (R189). -/
structure Pointers where
  aRead : Requester
  aWrite : Requester
  bRead : Requester
  cRead : Requester
  cWrite : Requester
  memberRead : Member
  memberWrite : Member
deriving DecidableEq, Repr

/-! ### The part -/

/-- The state of the VBL4. -/
structure State where
  /-- the part state (section 11) and the halt cause shown in STATE (R194). -/
  partState : PartState
  haltCause : HaltCause
  /-- the start address of START_ADDR_LO and START_ADDR_HI (R194). -/
  startAddr : Addr
  /-- the address of the start record read that STARTING offered; a later START_ADDR write leaves it (R194). -/
  startRead : Option Addr
  /-- the settle wait (R199), in ms. -/
  settleTimer : Option Nat
  /-- RESET# is asserted (R200). -/
  resetHeld : Bool
  /-- the levels of the link inputs (R63). -/
  pins : Levels
  links : Vector Link 4
  units : Vector RingUnit 4
  lines : Vector Line 16
  /-- the pool arbiter's grant pointer (R57). -/
  grantPtr : LinkId
  sc : StatusRing
  sRings : Vector StatusRing 4
  control : Control
  errorLog : ErrorLog
  /-- the ERROR_NOTICE offers of the error log, the standing one first (R127, R160). -/
  notices : List StatusRecord
  readTags : Vector Ident 8
  writeSlots : Vector Ident 8
  /-- the exhaustion flags (R187). -/
  readExhausted : Bool
  writeExhausted : Bool
  pointers : Pointers
  lateResponses : Word
  recordsDiscarded : Word
  /-- model: how many open values have been taken (Config). -/
  openValues : Nat
  /-- model: the commands that wait, first in, first out. -/
  pending : List Instr
deriving DecidableEq, Repr

/-- Why the machine stops with a fault: never. The spec gives the part an effect, or none, for every event, and no
event ends it, so no meaning raises a fault. -/
inductive Fault where
deriving DecidableEq, Repr

/-- Why the machine refuses a command. -/
inductive Refusal where
  /-- Raised by exec for a command without a meaning, of which there is none. Safe: the model stops where the part
  goes on. -/
  | notModelled (mnemonic : String)
deriving DecidableEq, Repr

/-! ### Reset values -/

/-- An empty segment window (R25). -/
def SegWindow.reset : SegWindow :=
  { entries := [], next := 0, sum := 0, mismatch := none, read := .none }

/-- An UNBOUND ring unit (R1). -/
def RingUnit.reset : RingUnit :=
  { bound := false, base := 0, size := 0, head := 0, fetched := 0, tail := 0, statusRing := none, window := [],
    fetchOutstanding := false, reread := .none, fillWindow := SegWindow.reset, storeWindow := SegWindow.reset }

/-- The configuration of an UNCONFIGURED link (R64). -/
def LinkConfig.reset : LinkConfig :=
  { handshake := .none, inboundEnabled := false, setup := 0, strobe := 0, hold := 0, turnaround := 0, timeout := 0,
    faultStops := false, reserve := 0, ceiling := 0, depth := 0, ctl0Initial := false, ctl1Initial := false }

/-- A link engine after either reset (R64, R88, R105, R141). -/
def Link.reset : Link :=
  { state := .unconfigured, sub := .idle, holdCause := none, config := LinkConfig.reset, dir := .outbound,
    phase := .none, phaseTimer := none, ackSeen := false, stop := .none, lastByte := 0, handshakeTimer := none,
    turnTimer := none, ctl0 := false, ctl1 := false, restore0 := none, restore1 := none, pulseTimer := none,
    wait := none, limitTimer := none, attnLatch := false, attnOwed := false, lines := [], fillCursor := .idle,
    sentCount := 0, gathering := false, storeCursor := .idle, gathered := 0, breakPos := none, endCause := .none,
    heldCopy := none, holdRecord := .none, cancellation := .none, snapshot := none, offers := [], bytesOut := 0,
    bytesIn := 0, descOk := 0, descFailed := 0, linkTimeouts := 0, linesDiscarded := 0 }

/-- A FREE line whose record is cleared, over the data bytes given (R37). -/
def Line.freeWith (data : Vector Byte 64) : Line :=
  { state := .free, owner := none, descSlot := 0, address := 0, length := 0, offset := 0, error := none, last := false,
    startOffset := 0, data := data }

/-- A status ring after either reset (R123). -/
def StatusRing.reset : StatusRing :=
  { state := .absent, base := 0, size := 0, tail := 0, releasedHead := 0, phase := true, unreleased := 0, pending := [],
    pointer := .log, writeOutstanding := none, intState := .armed, msgAddr := 0, msgData := 0, modCount := 1,
    modDelay := 0, written := 0, modTimer := none, msgDue := false, msgOutstanding := false }

/-- The error log after hardware reset (R158). -/
def ErrorLog.reset : ErrorLog :=
  { first := none, further := 0, repeats := Vector.replicate 7 false, noticeLatch := false, sinceCapture := false }

/-- The control processor after either reset (R161). -/
def Control.reset : Control :=
  { base := 0, size := 0, head := 0, fetched := 0, tail := 0, state := .idle, current := none, outcome := none,
    capture := .none, write0 := .idle, write1 := .idle, failure := none, resultOffer := none }

/-- A FREE tag or slot (R182). -/
def Ident.reset : Ident :=
  { state := .free, cls := none, address := 0, length := 0, route := none, timer := none, data := [] }

/-- The round-robin pointers after either reset (R189). -/
def Pointers.reset : Pointers :=
  { aRead := .group, aWrite := .group, bRead := .group, cRead := .group, cWrite := .group,
    memberRead := .ring (.s 3), memberWrite := .ring (.s 3) }

/-- DESIGN CHOICE (log 1): the levels of a port with nothing happening on it. -/
def quietPins : PinLevels := { busy := false, ack := true, attn := false, fault := true }

/-- The part right after a hardware reset whose RESET# has been released (R200): DORMANT, every item at its reset
value. The data bytes of the lines, which the spec calls undefined, and the levels of the inputs, which are not the
part's own, stand at the values of log entries 1 and 2. -/
def State.reset : State :=
  { partState := .dormant, haltCause := .none, startAddr := 0, startRead := none, settleTimer := none,
    resetHeld := false, pins := Vector.replicate 4 quietPins, links := Vector.replicate 4 Link.reset,
    units := Vector.replicate 4 RingUnit.reset, lines := Vector.replicate 16 (Line.freeWith (Vector.replicate 64 0)),
    grantPtr := 3, sc := StatusRing.reset, sRings := Vector.replicate 4 StatusRing.reset, control := Control.reset,
    errorLog := ErrorLog.reset, notices := [], readTags := Vector.replicate 8 Ident.reset,
    writeSlots := Vector.replicate 8 Ident.reset, readExhausted := false, writeExhausted := false,
    pointers := Pointers.reset, lateResponses := 0, recordsDiscarded := 0, openValues := 0, pending := [] }

end Sys2Proof.Machine
end

