-- ==== Sys2Proof/Machine/Layout.lean ====
section
/-! DEFINITION. The record layouts of section 11.6: little-endian fields, what the part reads (start record,
descriptor, segment table entry, command) and what it writes (status record, counter block, error log record). -/

namespace Sys2Proof.Machine

/-! ### Little-endian fields -/

/-- The little-endian number in the bytes of v from offset off on, len of them (R201). -/
def leField {k : Nat} (v : Vector Byte k) (off len : Nat) : Nat :=
  (List.range len).foldr (fun i acc => (v[off + i]?.getD 0).toNat + 256 * acc) 0

/-- The little-endian bytes of x, len of them (R201). -/
def leBytes (len x : Nat) : List Byte :=
  (List.range len).map fun i => BitVec.ofNat 8 (x / 256 ^ i)

/-- Whether bit i of x is set. -/
def bitOf (x i : Nat) : Bool := x / 2 ^ i % 2 == 1

/-- The number whose bits, from bit 0 up, are the list's. -/
def ofBits : List Bool → Nat
  | [] => 0
  | b :: bs => (if b then 1 else 0) + 2 * ofBits bs

/-! ### Ranges that several records share -/

/-- A power of two from lo to hi (R168, R172, R197). -/
def powerOfTwoIn (lo hi x : Nat) : Bool :=
  (List.range 11).any (fun k => x == 2 ^ k) && lo ≤ x && x ≤ hi

/-- A range of len bytes from a on lies in reach: the upper 16 bits of a are zero and its last byte is at or below
FFFFFFFFFFFFh (R20). -/
def inReach (a len : Nat) : Bool := a < Config.reach && a + len ≤ Config.reach

/-- The base of a ring of size slots of slotBytes bytes (R168, R172, R197). -/
def ringBaseOk (base size slotBytes : Nat) : Bool := base % 64 == 0 && inReach base (slotBytes * size)

/-- A message address: 0, or a multiple of 4 whose upper 16 bits are zero (R168, R197). -/
def messageAddrOk (a : Nat) : Bool := a % 4 == 0 && a < Config.reach

/-! ### Descriptors (section 11.6.2) -/

/-- The kind field. -/
def DescKind.decode : Nat → Option DescKind
  | 1 => some .send
  | 2 => some .receive
  | 3 => some .signal
  | _ => none

/-- The segment_form field. -/
def SegForm.decode : Nat → Option SegForm
  | 0 => some .inline
  | 1 => some .table
  | _ => none

/-- The ctl0_action and ctl1_action fields. -/
def CtlAction.decode : Nat → Option CtlAction
  | 0 => some .keep
  | 1 => some .low
  | 2 => some .high
  | 3 => some .pulse
  | _ => none

/-- The wait_condition field. -/
def WaitCond.decode : Nat → Option WaitCond
  | 0 => some .none
  | 1 => some .attnHigh
  | 2 => some .attnLow
  | 3 => some .faultHigh
  | 4 => some .faultLow
  | 5 => some .busyHigh
  | 6 => some .busyLow
  | _ => Option.none

/-- The descriptor in the 32 bytes of v from offset o on. -/
def Descriptor.decode {k : Nat} (v : Vector Byte k) (o : Nat) : Descriptor :=
  { kind := DescKind.decode (leField v o 1)
    quiet := bitOf (leField v (o + 1) 1) 0
    shortIsError := bitOf (leField v (o + 1) 1) 1
    expiryIsError := bitOf (leField v (o + 1) 1) 2
    pauseAfter := bitOf (leField v (o + 1) 1) 3
    clearAttention := bitOf (leField v (o + 1) 1) 4
    tag := BitVec.ofNat 16 (leField v (o + 2) 2)
    byteCount := leField v (o + 4) 3
    form := SegForm.decode (leField v (o + 7) 1 % 16)
    segmentCount := leField v (o + 7) 1 / 16
    addr0 := BitVec.ofNat 64 (leField v (o + 8) 8)
    len0 := leField v (o + 16) 4
    len1 := leField v (o + 20) 4
    addr1 := BitVec.ofNat 64 (leField v (o + 24) 8)
    ctl0 := CtlAction.decode (leField v (o + 4) 1)
    ctl1 := CtlAction.decode (leField v (o + 5) 1)
    pulseWidth := leField v (o + 6) 1
    wait := WaitCond.decode (leField v (o + 7) 1)
    waitLimit := leField v (o + 8) 2 }

/-- The table_address of a TABLE descriptor, which stands where segment 0's address does. -/
def Descriptor.tableAddr (d : Descriptor) : Nat := d.addr0.toNat

/-- The entry_count of a TABLE descriptor, which stands where segment 0's length does. -/
def Descriptor.entryCount (d : Descriptor) : Nat := d.len0

/-- The address and length of a segment table entry, in the 16 bytes of v from offset o on (section 11.6.3). -/
def decodeEntry {k : Nat} (v : Vector Byte k) (o : Nat) : Nat × Nat := (leField v o 8, leField v (o + 8) 4)

/-! ### The start record (section 11.6.1) -/

/-- The fields of the start record. -/
structure StartRecord where
  format : Nat
  controlSize : Nat
  scSize : Nat
  controlBase : Nat
  scBase : Nat
  msgAddr : Nat
  msgData : Nat
  modCount : Nat
  modDelay : Nat
deriving DecidableEq, Repr

/-- The start record in 64 bytes. -/
def StartRecord.decode (v : Vector Byte 64) : StartRecord :=
  { format := leField v 0 1, controlSize := leField v 4 2, scSize := leField v 6 2, controlBase := leField v 8 8,
    scBase := leField v 16 8, msgAddr := leField v 24 8, msgData := leField v 32 4, modCount := leField v 36 1,
    modDelay := leField v 37 1 }

/-- The byte offset of the first field of a start record that fails its check, in the order of R197. -/
def StartRecord.firstInvalid (r : StartRecord) : Option Nat :=
  if r.format ≠ 1 then some 0
  else if !powerOfTwoIn 8 256 r.controlSize then some 4
  else if !ringBaseOk r.controlBase r.controlSize 32 then some 8
  else if !powerOfTwoIn 16 1024 r.scSize then some 6
  else if !ringBaseOk r.scBase r.scSize 16 then some 16
  else if !messageAddrOk r.msgAddr then some 24
  else if r.modCount < 1 || 32 < r.modCount then some 36
  else none

/-! ### Codes (sections 11.6.4 and 11.6.5) -/

/-- The value of an outcome or log code. -/
def Code.value : Code → Nat
  | .ok => 0x00 | .endedEarly => 0x01 | .waitExpired => 0x02 | .cancelled => 0x03
  | .descriptorInvalid => 0x10 | .segmentMismatch => 0x11
  | .memoryReadError => 0x20 | .memoryWriteError => 0x21 | .memoryTimeout => 0x22
  | .linkTimeout => 0x30 | .linkFault => 0x31 | .linkOverrun => 0x32
  | .attention => 0x40 | .errorNotice => 0x41
  | .refusedState => 0x50 | .refusedRange => 0x51 | .refusedInUse => 0x52 | .resourcesUnavailable => 0x53
  | .unknownCommand => 0x54
  | .notifyRange => 0x60 | .notifyUnbound => 0x61 | .notifyRetract => 0x62 | .releaseRange => 0x63
  | .unsolicitedOverrun => 0x64 | .messageWriteFailed => 0x65 | .lateResponse => 0x66 | .tagsExhausted => 0x67
  | .statusWriteFailed => 0x68 | .startReadFailed => 0x69 | .startInvalid => 0x6A | .controlFetchFailed => 0x6B

/-- The value of a descriptor-invalid code. -/
def InvalidCode.value : InvalidCode → Nat
  | .kind => 1 | .count => 2 | .form => 3 | .address => 4 | .mode => 5 | .signalField => 6

/-- The value of an error class. -/
def ErrorClass.value : ErrorClass → Nat
  | .descriptor => 1 | .memory => 2 | .link => 3 | .register => 4 | .message => 5 | .bus => 6 | .fatal => 7

/-- The value of an error event's source (section 11.6.8). -/
def LogSource.value : LogSource → Nat
  | .link n => n | .ringUnit n => 4 + n | .ring .sc => 8 | .ring (.s n) => 9 + n
  | .control => 13 | .bus => 14 | .register => 15

/-- The type and value of a record's detail code. -/
def Detail.value : Detail → Nat × Nat
  | .absent => (0, 0)
  | .invalidCode c => (1, c.value)
  | .segment i => (2, i)
  | .fetch => (3, 0)
  | .errorClass c => (4, c.value)
  | .commandCode c => (5, c.toNat)

/-- The value of a record's hold cause part. -/
def holdCauseValue : Option HoldCause → Nat
  | none => 0 | some .error => 1 | some .pause => 2 | some .statusLost => 3

/-- The value of a record kind. -/
def RecordKind.value : RecordKind → Nat
  | .completion => 1 | .event => 2 | .result => 3

/-- The value of a record's source. -/
def RecordSource.value : RecordSource → Nat
  | .link n => n | .control => 8

/-- The line snapshot byte. -/
def Snapshot.value (p : Snapshot) : Nat :=
  ofBits [p.busy, p.ack, p.attn, p.fault, p.dir, p.ctl0, p.ctl1, p.latch]

/-- The 16 bytes of a status record with the phase given (section 11.6.4). -/
def StatusRecord.bytes (r : StatusRecord) (phase : Bool) : List Byte :=
  leBytes 1 ((if phase then 1 else 0) + 2 * r.kind.value + 16 * r.source.value) ++ leBytes 1 r.outcome.value
    ++ leBytes 2 r.tag.toNat ++ leBytes 4 r.bytesDone ++ leBytes 2 r.ringHead ++ leBytes 1 r.snapshot.value
    ++ leBytes 1 (holdCauseValue r.holdCause) ++ leBytes 1 r.detail.value.1 ++ leBytes 1 r.detail.value.2
    ++ leBytes 2 0

/-- The 32 bytes of the error log record (section 11.6.8). A tag, address or detail that a first-error record present
does not have is written 0 (log 34). -/
def ErrorLog.bytes (l : ErrorLog) : List Byte :=
  let absent := leBytes 6 0
  leBytes 1 (ofBits [l.first.isSome, l.noticeLatch])
    ++ (match l.first with
        | none => absent
        | some e => leBytes 1 e.cls.value ++ leBytes 1 e.code.value ++ leBytes 1 e.source.value
            ++ leBytes 2 ((e.tag.getD 0).toNat)
            ++ leBytes 1 (ofBits [e.tag.isSome, e.address.isSome, e.detail.isSome]))
    ++ leBytes 1 l.further
    ++ leBytes 8 (((l.first.bind (·.address)).getD 0).toNat)
    ++ leBytes 4 (((l.first.bind (·.detail)).getD 0).toNat)
    ++ leBytes 1 (ofBits l.repeats.toList) ++ leBytes 11 0

/-- The 128 bytes of the counter block (section 11.6.7); the 26 values stand in the block's order. -/
def counterBlock (v : Vector Word 26) : List Byte :=
  (v.toList.map fun c => leBytes 4 c.toNat).flatten ++ leBytes 24 0

/-! ### Command records (section 11.6.6) -/

/-- The command code. -/
def cmdCode (c : Vector Byte 32) : Nat := leField c 0 1

/-- The target, where it is 0 to 3. -/
def cmdTarget (c : Vector Byte 32) : Option LinkId :=
  if h : leField c 1 1 < 4 then some ⟨leField c 1 1, h⟩ else none

/-- The command_tag. -/
def cmdTag (c : Vector Byte 32) : BitVec 16 := BitVec.ofNat 16 (leField c 2 2)

/-- The handshakes of CONFIGURE LINK. -/
def Handshake.decode : Nat → Option Handshake
  | 0 => some .none
  | 1 => some .paced
  | 2 => some .busyOnly
  | 3 => some .timed
  | _ => Option.none

/-- A byte of CONFIGURE LINK that is 0 or 1: inbound, ctl0_initial and ctl1_initial. -/
def flagDecode : Nat → Option Bool
  | 0 => some false
  | 1 => some true
  | _ => none

/-- The enumerated fields of CONFIGURE LINK, where each has a listed meaning: outbound_handshake, inbound,
ctl0_initial and ctl1_initial. -/
def cmdLinkModes (c : Vector Byte 32) : Option (Handshake × Bool × Bool × Bool) := do
  let h ← Handshake.decode (leField c 4 1)
  let i ← flagDecode (leField c 5 1)
  let c0 ← flagDecode (leField c 16 1)
  let c1 ← flagDecode (leField c 17 1)
  return (h, i, c0, c1)

/-- The timing fields of CONFIGURE LINK over a configuration. -/
def withTiming (cfg : LinkConfig) (c : Vector Byte 32) : LinkConfig :=
  { cfg with setup := leField c 6 1, strobe := leField c 7 1, hold := leField c 8 1, turnaround := leField c 9 1,
             timeout := leField c 10 2 }

/-- The whole configuration of CONFIGURE LINK, given its enumerated fields. -/
def cmdConfig (c : Vector Byte 32) (m : Handshake × Bool × Bool × Bool) : LinkConfig :=
  withTiming { LinkConfig.reset with
    handshake := m.1, inboundEnabled := m.2.1, faultStops := bitOf (leField c 12 1) 0, reserve := leField c 13 1,
    ceiling := leField c 14 1, depth := leField c 15 1, ctl0Initial := m.2.2.1, ctl1Initial := m.2.2.2 } c

/-- The actions of RESUME LINK. -/
inductive ResumeAction where
  | retry | skip | flush
deriving DecidableEq, Repr

/-- The action of RESUME LINK. -/
def cmdResume (c : Vector Byte 32) : Option ResumeAction :=
  match leField c 4 1 with
  | 1 => some .retry
  | 2 => some .skip
  | 3 => some .flush
  | _ => none

/-- A level of SET LINES: KEEP is some none (R176). -/
def levelDecode : Nat → Option (Option Bool)
  | 0 => some none
  | 1 => some (some false)
  | 2 => some (some true)
  | _ => none

end Sys2Proof.Machine
end

