-- ==== Sys2Proof/Machine/Operands.lean ====
section
/-! DEFINITION. Reading and writing the parts of the state by number, and what the spec derives from the stored items:
ring counts, the CURRENT copy, pool counts, line requests, the levels of the output pins, the line snapshot and the
values of the readable registers. -/

namespace Sys2Proof.Machine

/-! ### Access by number -/

def State.link (s : State) (n : LinkId) : Link := s.links[n]
def State.unit (s : State) (n : LinkId) : RingUnit := s.units[n]
def State.line (s : State) (i : LineId) : Line := s.lines[i]
def State.readTag (s : State) (t : BusNo) : Ident := s.readTags[t]
def State.writeSlot (s : State) (t : BusNo) : Ident := s.writeSlots[t]

/-- Change link engine n. -/
def State.modLink (s : State) (n : LinkId) (f : Link → Link) : State :=
  { s with links := s.links.set n (f (s.link n)) }

/-- Change ring unit Tn. -/
def State.modUnit (s : State) (n : LinkId) (f : RingUnit → RingUnit) : State :=
  { s with units := s.units.set n (f (s.unit n)) }

/-- Change staging line i. -/
def State.modLine (s : State) (i : LineId) (f : Line → Line) : State :=
  { s with lines := s.lines.set i (f (s.line i)) }

/-- Status ring r. -/
def State.ring (s : State) : RingId → StatusRing
  | .sc => s.sc
  | .s n => s.sRings[n]

/-- Change status ring r. -/
def State.modRing (s : State) (r : RingId) (f : StatusRing → StatusRing) : State :=
  match r with
  | .sc => { s with sc := f s.sc }
  | .s n => { s with sRings := s.sRings.set n (f s.sRings[n]) }

/-- Change the control processor. -/
def State.modControl (s : State) (f : Control → Control) : State := { s with control := f s.control }

/-- The read tag or write slot of a number. -/
def State.ident (s : State) : BusKind → BusNo → Ident
  | .read, t => s.readTag t
  | .write, t => s.writeSlot t

/-- Change a read tag or write slot. -/
def State.modIdent (s : State) (k : BusKind) (t : BusNo) (f : Ident → Ident) : State :=
  match k with
  | .read => { s with readTags := s.readTags.set t (f (s.readTag t)) }
  | .write => { s with writeSlots := s.writeSlots.set t (f (s.writeSlot t)) }

/-- The read tags, or the write slots. -/
def State.idents (s : State) : BusKind → List Ident
  | .read => s.readTags.toList
  | .write => s.writeSlots.toList

def allLinks : List LinkId := [0, 1, 2, 3]
def allLines : List LineId := List.finRange 16
def allBusNos : List BusNo := [0, 1, 2, 3, 4, 5, 6, 7]
def allRings : List RingId := [.sc, .s 0, .s 1, .s 2, .s 3]

/-- Change link engine n in the way given, once for each link of the list. -/
def forEach {α : Type} (f : State → α → State) (l : List α) (s : State) : State := l.foldl f s

/-! ### Inputs -/

/-- The levels after the changes for which the table has no row: BUSY risen, ACK#, ATTN or FAULT# in the opposite
direction to the edge the part senses (log 3). -/
def senseLevels (old new : PinLevels) : PinLevels :=
  { busy := old.busy || new.busy
    ack := old.ack && new.ack
    attn := old.attn && new.attn
    fault := old.fault || new.fault }

/-- Take from the levels an event finds the changes for which the table has no row. -/
def State.sense (s : State) (lv : Levels) : State :=
  { s with pins := Vector.zipWith senseLevels s.pins lv }

/-- The levels of link n's inputs. -/
def State.pin (s : State) (n : LinkId) : PinLevels := s.pins[n]

/-- Change the levels of link n's inputs. -/
def State.modPin (s : State) (n : LinkId) (f : PinLevels → PinLevels) : State :=
  { s with pins := s.pins.set n (f (s.pin n)) }

/-- The input named by a wait condition stands at the named level (R83). -/
def levelMeets (p : PinLevels) : WaitCond → Bool
  | .none => true
  | .attnHigh => p.attn
  | .attnLow => !p.attn
  | .faultHigh => p.fault
  | .faultLow => !p.fault
  | .busyHigh => p.busy
  | .busyLow => !p.busy

/-! ### Rings -/

/-- (b − a) mod size: how far index b lies ahead of index a in ring order (section 0.5.2). -/
def ringDist (size a b : Nat) : Nat := (b + size - a) % size

/-- The posted count of a transfer ring (R2). -/
def RingUnit.posted (u : RingUnit) : Nat := ringDist u.size u.head u.tail

/-- The fetched count of a transfer ring (R2). -/
def RingUnit.fetchedCount (u : RingUnit) : Nat := ringDist u.size u.head u.fetched

/-- The address of slot i of a transfer ring. -/
def RingUnit.slotAddr (u : RingUnit) (i : Nat) : Addr := u.base + BitVec.ofNat 48 (32 * i)

/-- The fetched count of the control ring (R161). -/
def Control.fetchedCount (c : Control) : Nat := ringDist c.size c.head c.fetched

/-- The posted count of the control ring (R163). -/
def Control.posted (c : Control) : Nat := ringDist c.size c.head c.tail

/-- The address of slot i of the control ring (R163). -/
def Control.slotAddr (c : Control) (i : Nat) : Addr := c.base + BitVec.ofNat 48 (32 * i)

/-- The control slot whose command is read, executed or reported (R161): the one before the fetched position. -/
def Control.slot (c : Control) : Nat := (c.fetched + c.size - 1) % c.size

/-- The address of slot i of a status ring (R129). -/
def StatusRing.slotAddr (r : StatusRing) (i : Nat) : Addr := r.base + BitVec.ofNat 48 (16 * i)

/-- A status ring is full (R125). -/
def StatusRing.full (r : StatusRing) : Bool := (r.tail + 1) % r.size == r.releasedHead

/-! ### The descriptor window -/

/-- The CURRENT copy of a ring, of which there is at most one (R12). -/
def RingUnit.current (u : RingUnit) : Option Copy := u.window.find? (·.exec == .current)

/-- The copy of a slot. -/
def RingUnit.copy (u : RingUnit) (slot : Nat) : Option Copy := u.window.find? (·.slot == slot)

/-- The descriptor fields of the copy of a slot. -/
def RingUnit.descOf (u : RingUnit) (slot : Nat) : Option Descriptor := (u.copy slot).bind (·.desc)

/-- The kind of a copy. -/
def Copy.kind (c : Copy) : Option DescKind := c.desc.bind (·.kind)

/-- The tag a copy's records carry: 0 for an UNREADABLE copy (R147, R154). -/
def Copy.tag (c : Copy) : BitVec 16 := (c.desc.map (·.tag)).getD 0

/-- A copy that fails at the front instead of starting (R24). -/
def Copy.bad (c : Copy) : Bool := c.verdict != .valid || c.inlineMismatch

/-- A VALID copy of a kind, with no INLINE mismatch. -/
def Copy.good (c : Copy) (k : DescKind) : Bool := !c.bad && c.kind == some k

/-- A copy with PAUSE_AFTER (R18). -/
def Copy.pauseAfter (c : Copy) : Bool := (c.desc.map (·.pauseAfter)).getD false

/-- A copy with QUIET (R18). -/
def Copy.quiet (c : Copy) : Bool := (c.desc.map (·.quiet)).getD false

/-- A copy not yet started: WAITING or FILLING_AHEAD. -/
def Copy.unstarted (c : Copy) : Bool := c.exec == .waiting || c.exec == .fillingAhead

/-- Change the copy of a slot in place. -/
def RingUnit.modCopy (u : RingUnit) (slot : Nat) (f : Copy → Copy) : RingUnit :=
  { u with window := u.window.map fun c => if c.slot == slot then f c else c }

/-- The CURRENT copy of link n is of kind k. -/
def State.currentIs (s : State) (n : LinkId) (k : DescKind) : Bool :=
  match (s.unit n).current with
  | some c => c.kind == some k
  | none => false

/-! ### Segments under a cursor -/

/-- A link's two cursors and their segment windows (R25). -/
def State.cursor (s : State) (n : LinkId) : CursorKind → Cursor
  | .fill => (s.link n).fillCursor
  | .store => (s.link n).storeCursor

def State.segWindow (s : State) (n : LinkId) : CursorKind → SegWindow
  | .fill => (s.unit n).fillWindow
  | .store => (s.unit n).storeWindow

def State.setCursor (s : State) (n : LinkId) (k : CursorKind) (c : Cursor) : State :=
  s.modLink n fun l => match k with
    | .fill => { l with fillCursor := c }
    | .store => { l with storeCursor := c }

def State.modSegWindow (s : State) (n : LinkId) (k : CursorKind) (f : SegWindow → SegWindow) : State :=
  s.modUnit n fun u => match k with
    | .fill => { u with fillWindow := f u.fillWindow }
    | .store => { u with storeWindow := f u.storeWindow }

/-- The address and length of segment i of a descriptor, where it is known: an INLINE pair, or an entry of the segment
window (R91, R107). -/
def segmentOf (d : Descriptor) (w : SegWindow) (i : Nat) : Option (Addr × Nat) :=
  match d.form with
  | some .inline =>
    if i = 0 then some (d.addr0.setWidth 48, d.len0)
    else if i = 1 && d.segmentCount == 2 then some (d.addr1.setWidth 48, d.len1)
    else none
  | some .table => (w.entries.find? (·.index == i)).map fun e => (e.addr, e.length)
  | none => none

/-- How many segments a descriptor has. -/
def Descriptor.segments (d : Descriptor) : Nat :=
  match d.form with
  | some .table => d.entryCount
  | _ => d.segmentCount

/-- A cursor stands at its mismatch point (R91, R107). -/
def atMismatch (c : Cursor) (w : SegWindow) : Bool :=
  match c, w.mismatch with
  | .inside _ seg _, some (i, _) => seg == i
  | _, _ => false

/-- The slot, segment, byte and segment range under a cursor that has bytes left (R91, R107). -/
def State.bytesLeft (s : State) (n : LinkId) (k : CursorKind) : Option (Nat × Nat × Nat × Addr × Nat) :=
  match s.cursor n k with
  | .inside slot seg off =>
    if atMismatch (s.cursor n k) (s.segWindow n k) then none
    else
      match (s.unit n).descOf slot with
      | some d =>
        match segmentOf d (s.segWindow n k) seg with
        | some (a, len) => if off < len then some (slot, seg, off, a, len) else none
        | none => none
      | none => none
  | _ => none

/-! ### Pool counts (R53) -/

/-- The FREE lines. -/
def State.freeLines (s : State) : List LineId := allLines.filter fun i => (s.line i).state == .free

/-- A link's owned count. -/
def State.owned (s : State) (n : LinkId) : Nat := (s.link n).lines.length

/-- A link's shortfall. -/
def State.shortfall (s : State) (n : LinkId) : Nat := (s.link n).config.reserve - s.owned n

/-- The shortfalls of the links other than n, added. -/
def State.otherShortfalls (s : State) (n : LinkId) : Nat :=
  ((allLinks.filter (· != n)).map s.shortfall).sum

/-- An outbound link's in-flight count. -/
def State.inFlight (s : State) (n : LinkId) : Nat :=
  ((s.link n).lines.filter fun i =>
    (s.line i).state == .filling || (s.line i).state == .ready || (s.line i).state == .failed).length

/-- A line's fill has been issued: a BUSY read tag is routed to it (R41). -/
def State.fillIssued (s : State) (i : LineId) : Bool :=
  s.readTags.any fun t => t.state == .busy && t.route == some (.fill i)

/-- A link's unsettled count. -/
def State.unsettled (s : State) (n : LinkId) : Nat :=
  ((s.link n).lines.filter fun i =>
    ((s.line i).state == .filling && s.fillIssued i) || (s.line i).state == .discardPending
      || (s.line i).state == .storing).length

/-- A link's GATHERING line with room, if it has one (R53). -/
def State.gatheringRoom (s : State) (n : LinkId) : Option LineId :=
  (s.link n).lines.find? fun i => (s.line i).state == .gathering && (s.line i).offset < (s.line i).length

/-- A link's GATHERING line, if it has one. -/
def State.gatheringLine (s : State) (n : LinkId) : Option LineId :=
  (s.link n).lines.find? fun i => (s.line i).state == .gathering

/-- The link's line request stands (R56): the conditions of R92 outbound, of R108 inbound. -/
def State.lineWanted (s : State) (n : LinkId) : Bool :=
  let l := s.link n
  s.partState == .running && l.state == .running && s.owned n < l.config.ceiling &&
    match l.dir with
    | .outbound => l.sub == .sending && s.inFlight n < l.config.depth && (s.bytesLeft n .fill).isSome
    | .inbound => l.sub == .receiving && l.gathering && (s.gatheringLine n).isNone && (s.bytesLeft n .store).isSome

/-- The grant rule for a standing request (R55). -/
def State.grantAllowed (s : State) (n : LinkId) : Bool :=
  s.lineWanted n && !s.freeLines.isEmpty &&
    (s.owned n < (s.link n).config.reserve || s.otherShortfalls n ≤ s.freeLines.length - 1)

/-! ### Outputs and snapshots -/

/-- The levels of one port's outputs; D0 to D7 are absent when released (R67). -/
structure PortOut where
  dir : Bool
  data : Option Byte
  stb : Bool
  ctl0 : Bool
  ctl1 : Bool
deriving DecidableEq, Repr

/-- The UNCONFIGURED row of R67, which is also that of HALTED and RESETTING and of an asserted RESET#. -/
def PortOut.idle : PortOut := { dir := false, data := none, stb := true, ctl0 := false, ctl1 := false }

/-- An inbound link can accept a byte (R75). -/
def State.canAccept (s : State) (n : LinkId) : Bool :=
  s.partState == .running && (s.link n).state == .running && (s.link n).turnTimer.isNone && (s.link n).gathering
    && s.currentIs n .receive && (s.gatheringRoom n).isSome

/-- The levels a link drives in its present direction (R67, R68, R70, R75). -/
def State.activeOut (s : State) (n : LinkId) : PortOut :=
  let l := s.link n
  match l.dir with
  | .outbound =>
    { dir := false, data := if l.turnTimer.isSome then none else some l.lastByte, stb := l.phase != .strobe,
      ctl0 := l.ctl0, ctl1 := l.ctl1 }
  | .inbound => { dir := true, data := none, stb := s.canAccept n, ctl0 := l.ctl0, ctl1 := l.ctl1 }

/-- The levels of link n's outputs (R67, R85, R200). A byte stopped in STROBE keeps its levels until its strobe time
has run out (R73). -/
def State.portOut (s : State) (n : LinkId) : PortOut :=
  if s.resetHeld then PortOut.idle
  else
    match s.partState with
    | .halted | .resetting => if (s.link n).phase == .strobe then s.activeOut n else PortOut.idle
    | _ => if (s.link n).state == .unconfigured then PortOut.idle else s.activeOut n

/-- The line snapshot of link n (R86). -/
def State.snapshotOf (s : State) (n : LinkId) : Snapshot :=
  let p := s.pin n
  let o := s.portOut n
  { busy := p.busy, ack := p.ack, attn := p.attn, fault := p.fault, dir := o.dir, ctl0 := o.ctl0, ctl1 := o.ctl1,
    latch := (s.link n).attnLatch }

/-- The snapshot of a record with no link: every level low and the latch clear (R126, R166). -/
def Snapshot.low : Snapshot :=
  { busy := false, ack := false, attn := false, fault := false, dir := false, ctl0 := false, ctl1 := false,
    latch := false }

/-! ### The readable registers (R194) -/

/-- The number of STALE read tags or write slots (R182). -/
def State.staleCount (s : State) (k : BusKind) : Nat := ((s.idents k).filter (·.state == .stale)).length

/-- The part state field of STATE. -/
def PartState.value : PartState → Nat
  | .dormant => 0 | .starting => 1 | .running => 2 | .halted => 3 | .resetting => 4

/-- The halt cause field of STATE. -/
def HaltCause.value : HaltCause → Nat
  | .none => 0 | .startReadFailed => 1 | .startInvalid => 2 | .controlFetchFailed => 3 | .statusWriteFailed => 4

/-- The value of the STATE register. -/
def State.stateRegister (s : State) : Word :=
  BitVec.ofNat 32 (s.partState.value + 16 * s.haltCause.value + 256 * s.staleCount .read
    + 4096 * s.staleCount .write)

/-- What a read of the register window returns: an access that is not 32 bits wide and aligned reads 0, and so does
every access while RESET# is asserted (R194). -/
def State.readRegister (s : State) (offset : BitVec 5) (bytes : Nat) : Word :=
  if s.resetHeld || bytes != 4 then 0
  else
    match offset.toNat with
    | 0x00 => Config.ident
    | 0x08 => s.stateRegister
    | 0x0C => s.startAddr.setWidth 32
    | 0x10 => (s.startAddr.extractLsb' 32 16).setWidth 32
    | _ => 0

end Sys2Proof.Machine
end

