-- ==== Sys2Proof/Machine/Flags.lean ====
section
/-! DEFINITION. The flags and counters that many blocks raise: the saturating counters, the error log with its notice
latch and repeat flags (R158, R159), the exhaustion flags (R187), and the RESULT that ends a command (R166). -/

namespace Sys2Proof.Machine

/-! ### Counters -/

/-- A 32-bit counter raised by k, saturating at FFFFFFFFh (R60, R104). -/
def addCounter (c : Word) (k : Nat) : Word := BitVec.ofNat 32 (min (c.toNat + k) Config.counterMax)

/-- STATUS_RECORDS_DISCARDED raised by k (R140). -/
def State.countDiscardedRecords (s : State) (k : Nat) : State :=
  { s with recordsDiscarded := addCounter s.recordsDiscarded k }

/-! ### The error log -/

/-- The position of a class among the repeat flags. -/
def ErrorClass.index : ErrorClass → Fin 7
  | .descriptor => 0 | .memory => 1 | .link => 2 | .register => 3 | .message => 4 | .bus => 5 | .fatal => 6

/-- The ERROR_NOTICE of an event that fills the log (R126, R159). -/
def State.noticeFor (s : State) (c : ErrorClass) : StatusRecord :=
  { kind := .event, source := .control, tag := 0, outcome := .errorNotice, bytesDone := 0,
    ringHead := s.control.head, snapshot := Snapshot.low, holdCause := none, detail := .errorClass c }

/-- The log after an event that finds the first-error record absent (R159). -/
def ErrorLog.fill (l : ErrorLog) (e : ErrorEvent) : ErrorLog :=
  { l with first := some e, noticeLatch := true, sinceCapture := true }

/-- The log after an event that finds the first-error record present (R159). -/
def ErrorLog.repeatEvent (l : ErrorLog) (e : ErrorEvent) : ErrorLog :=
  { l with further := min (l.further + 1) 255, repeats := l.repeats.set e.cls.index true, sinceCapture := true }

/-- An error event taken by the error log (R159). In RUNNING one that fills the log makes an ERROR_NOTICE offer. -/
def State.logEvent (s : State) (e : ErrorEvent) : State :=
  match s.errorLog.first with
  | none =>
    { s with
      errorLog := s.errorLog.fill e
      notices := if s.partState = .running then s.notices ++ [s.noticeFor e.cls] else s.notices }
  | some _ => { s with errorLog := s.errorLog.repeatEvent e }

/-- The log emptied (R160). -/
def ErrorLog.clear (l : ErrorLog) : ErrorLog :=
  { l with first := none, further := 0, repeats := Vector.replicate 7 false, noticeLatch := false }

/-- Two acts of one event that raise an error event each: the log takes them in an order the spec leaves open
(R159). -/
def inEitherOrder (f g : State → State) (s : State) : State :=
  let s' := { s with openValues := s.openValues + 1 }
  if Config.firstEventFirst s.openValues then g (f s') else f (g s')

/-- An error event of the bus master about a tag or slot (R185 to R187). -/
def busEvent (code : Code) (address : Option Addr) (k : BusKind) (number : Nat) : ErrorEvent :=
  { cls := .bus, code := code, source := .bus, tag := none, address := address,
    detail := some (BitVec.ofNat 32 (number + match k with | .read => 0 | .write => 256)) }

/-! ### The exhaustion flags (R187) -/

/-- The exhaustion flag of reads or writes. -/
def State.exhausted (s : State) : BusKind → Bool
  | .read => s.readExhausted
  | .write => s.writeExhausted

def State.setExhausted (s : State) (k : BusKind) (b : Bool) : State :=
  match k with
  | .read => { s with readExhausted := b }
  | .write => { s with writeExhausted := b }

/-- All tags, or all slots, are STALE, and the flag does not say so yet. -/
def State.exhausts (s : State) (k : BusKind) : Bool := (s.idents k).all (·.state == .stale) && !s.exhausted k

/-- All tags, or all slots, have become STALE: the flag is set and TAGS_EXHAUSTED logged, once per entry. -/
def State.noteExhaustion (k : BusKind) (s : State) : State :=
  if s.exhausts k then
    (s.setExhausted k true).logEvent (busEvent .tagsExhausted none k 0)
  else s

/-! ### The end of a command -/

/-- The snapshot of a command's RESULT: the target link's for codes 3 to 8 with a target of 0 to 3, else low (R166). -/
def State.resultSnapshot (s : State) (c : Vector Byte 32) : Snapshot :=
  if 3 ≤ cmdCode c && cmdCode c ≤ 8 then
    match cmdTarget c with
    | some n => s.snapshotOf n
    | none => Snapshot.low
  else Snapshot.low

/-- The RESULT of a command (R126, R166). -/
def State.resultRecord (s : State) (c : Vector Byte 32) (o : Code) : StatusRecord :=
  { kind := .result, source := .control, tag := cmdTag c, outcome := o, bytesDone := 0,
    ringHead := (s.control.slot + 1) % s.control.size, snapshot := s.resultSnapshot c, holdCause := none,
    detail := .commandCode (BitVec.ofNat 8 (cmdCode c)) }

/-- The RESULT of the command in EXECUTING is made, and stands as an offer to SC (R166). -/
def State.makeResult (s : State) (c : Vector Byte 32) (o : Code) : State :=
  { s with control := { s.control with
      state := .offering, outcome := some o, write0 := .idle, write1 := .idle,
      resultOffer := some (s.resultRecord c o) } }

/-- The control processor offers the fetch of the next posted slot when it is IDLE in RUNNING; the fetched position
advances with the offer (R163). -/
def State.offerCommandFetch (s : State) : State :=
  let c := s.control
  if s.partState = .running ∧ c.state = .idle ∧ 0 < c.posted then
    { s with control := { c with state := .fetching, fetched := (c.fetched + 1) % c.size } }
  else s

/-- A RESULT has been accepted (R166). The outcome of the command becomes absent with its copy (log 32). -/
def State.resultAccepted (s : State) : State :=
  ({ s with control := { s.control with
      state := .idle, head := (s.control.head + 1) % s.control.size, current := none, outcome := none,
      capture := .none, failure := none, resultOffer := none } }).offerCommandFetch

/-- The command in EXECUTING ends with an outcome: its RESULT is made and offered to SC (R166). -/
def State.endCommand (o : Code) (s : State) : State :=
  match s.control.current with
  | some c => if s.control.state = .executing then s.makeResult c o else s
  | none => s

end Sys2Proof.Machine
end

