-- ==== Sys2Proof/Machine/Pool.lean ====
section
/-! DEFINITION. The staging line pool (section 3): freeing, sealing and discarding lines, cutting the next piece of a
data stream into a line, and the pool arbiter. -/

namespace Sys2Proof.Machine

/-! ### Lines leaving a list -/

/-- A line becomes FREE: its record is cleared and it leaves its owner's list (R37, R38, R51). -/
def State.freeLine (s : State) (i : LineId) : State :=
  let s' := match (s.line i).owner with
    | some n => s.modLink n fun l => { l with lines := l.lines.erase i }
    | none => s
  s'.modLine i fun x => Line.freeWith x.data

/-- LINES_DISCARDED of link n rises by one (R60). -/
def State.countDiscard (s : State) (n : LinkId) : State :=
  s.modLink n fun l => { l with linesDiscarded := addCounter l.linesDiscarded 1 }

/-- The break position moves to an offset, where that is smaller (R118, R120). -/
def Link.breakAt (l : Link) (off : Nat) : Link :=
  { l with breakPos := some (match l.breakPos with | some b => min b off | none => off) }

/-- A line of link n becomes FREE under a counted row of R59. -/
def State.freeCounted (s : State) (n : LinkId) (i : LineId) : State := (s.freeLine i).countDiscard n

/-- A discard taken at line i of link n (R59). A DRAINING line waits for the end of a byte in STROBE (R45, R73). A line
that leaves with bytes unstored moves the break position (R120). -/
def State.discardLine (n : LinkId) (s : State) (i : LineId) : State :=
  let x := s.line i
  match x.state with
  | .filling => if s.fillIssued i then s.modLine i fun x => { x with state := .discardPending } else s.freeCounted n i
  | .ready => s.freeCounted n i
  | .draining => if (s.link n).phase = .strobe then s else s.freeCounted n i
  | .failed => s.freeLine i
  | .gathering =>
    if x.offset = 0 then s.freeLine i
    else (s.modLink n fun l => l.breakAt x.startOffset).freeCounted n i
  | .sealed => (s.modLink n fun l => l.breakAt x.startOffset).freeCounted n i
  | .free | .discardPending | .storing => s

/-- The lines of link n in one of the states given are discarded. -/
def State.discardLines (s : State) (n : LinkId) (which : LineState → Bool) : State :=
  forEach (State.discardLine n) ((s.link n).lines.filter fun i => which (s.line i).state) s

/-- The link engine seals its GATHERING line early (R48, R112): a line with no bytes becomes FREE, uncounted. -/
def State.sealEarly (s : State) (n : LinkId) : State :=
  match s.gatheringLine n with
  | some i =>
    if (s.line i).offset = 0 then s.freeLine i
    else s.modLine i fun x => { x with state := .sealed, length := x.offset, last := true }
  | none => s

/-! ### Cutting a stream into lines (R39, R91, R107) -/

/-- The length of the line that starts at byte off of a segment: up to the segment's end or the next 64-byte
boundary. -/
def pieceLength (a : Addr) (len off : Nat) : Nat :=
  min (len - off) (64 - (a + BitVec.ofNat 48 off).toNat % 64)

/-- Where a cursor stands after a piece, and whether the piece ended its descriptor. mismatch says whether its segment
window holds a mismatch point. -/
def nextPosition (d : Descriptor) (mismatch : Bool) (slot seg off len piece : Nat) : Cursor × Bool :=
  if off + piece < len then (.inside slot seg (off + piece), false)
  else if seg + 1 < d.segments || mismatch then (.inside slot (seg + 1) 0, false)
  else (.atEnd slot, true)

/-- The next piece of link n's stream is given to FREE line i, in a state; the cursor moves past it, and a table entry
the piece ends leaves the segment window (R25, R39). -/
def State.cutLine (s : State) (n : LinkId) (k : CursorKind) (i : LineId) : State :=
  match s.bytesLeft n k with
  | some (slot, seg, off, a, len) =>
    match (s.unit n).descOf slot with
    | some d =>
      let piece := pieceLength a len off
      let (pos, ends) := nextPosition d (s.segWindow n k).mismatch.isSome slot seg off len piece
      let line (x : Line) : Line :=
        { x with
          state := match k with | .fill => .filling | .store => .gathering
          owner := some n, descSlot := slot, address := a + BitVec.ofNat 48 off, length := piece, offset := 0,
          error := none, last := (match k with | .fill => ends | .store => false)
          startOffset := match k with | .fill => 0 | .store => (s.link n).gathered }
      (((s.modLine i line).modLink n fun l => { l with lines := l.lines ++ [i] }).setCursor n k pos).modSegWindow n k
        fun w => if off + piece < len then w else { w with entries := w.entries.filter (·.index != seg) }
    | none => s
  | none => s

/-! ### The arbiter (R57) -/

/-- The links in the order the pool arbiter visits them. -/
def linksAfter (p : LinkId) : List LinkId := [p + 1, p + 2, p + 3, p]

/-- The link that the pool arbiter grants next, if any. -/
def State.nextGrant (s : State) : Option LinkId := (linksAfter s.grantPtr).find? s.grantAllowed

/-- The pool answers whether a reserve increase for link n can be honoured (R58). -/
def State.reserveFits (s : State) (n : LinkId) (reserve : Nat) : Bool :=
  s.otherShortfalls n + reserve ≤ s.freeLines.length

/-! ### Halt and reset (R61, R62) -/

/-- What a halt or soft reset does to line i. A DRAINING line whose byte is in STROBE waits for that byte. -/
def State.haltLine (s : State) (i : LineId) : State :=
  let x := s.line i
  let strobing : Bool := match x.owner with
    | some n => (s.link n).phase == .strobe
    | none => false
  match x.state with
  | .filling => if s.fillIssued i then s.modLine i fun x => { x with state := .discardPending } else s.freeLine i
  | .ready | .failed | .gathering | .sealed => s.freeLine i
  | .draining => if strobing then s else s.freeLine i
  | .free | .discardPending | .storing => s

end Sys2Proof.Machine
end

