-- ==== Sys2Proof/Machine/Holds.lean ====
section
/-! DEFINITION. Leaving RUNNING (sections 4.4, 8.1 to 8.5): how a byte under way stops, how a copy fails or is
cancelled, how a link enters HOLDING, HELD, QUIESCING and STOPPED, and what it gives up. -/

namespace Sys2Proof.Machine

/-- A timer as it is started: a limit of 0 runs none (R74, R77, R83). -/
def startTimer (limit : Nat) : Option Nat := if limit = 0 then none else some limit

/-! ### Bytes -/

/-- The DRAINING line of link n, of which there is at most one (R44). -/
def State.drainingLine (s : State) (n : LinkId) : Option LineId :=
  (s.link n).lines.find? fun i => (s.line i).state == .draining

/-- No byte is under way any more; the handshake timer stops with the byte (R73). -/
def Link.endByte (l : Link) : Link :=
  { l with phase := .none, phaseTimer := none, ackSeen := false, stop := .none, handshakeTimer := none }

/-- A byte counts as sent: the sent count, BYTES_OUT and the drain offset rise, and a line whose last byte it was
becomes FREE (R45, R95). -/
def State.countSent (s : State) (n : LinkId) : State :=
  let s := s.modLink n fun l => { l with sentCount := l.sentCount + 1, bytesOut := addCounter l.bytesOut 1 }
  match s.drainingLine n with
  | some i =>
    if (s.line i).offset + 1 < (s.line i).length then s.modLine i fun x => { x with offset := x.offset + 1 }
    else s.freeLine i
  | none => s

/-- A byte under way is stopped from outside, and ends according to its phase (R73). One that counts as sent here may be
the last of its SEND, which keeps the outcome CANCELLED all the same (log 12, DEDUCED). -/
def State.stopByte (s : State) (n : LinkId) : State :=
  match (s.link n).phase with
  | .none => s
  | .busyWait | .setup => s.modLink n Link.endByte
  | .strobe =>
    s.modLink n fun l => { l with handshakeTimer := none, stop := if l.stop = .none then .sent else l.stop }
  | .ackWait | .busyAfter | .hold => (s.modLink n Link.endByte).countSent n

/-- A byte under way fails: a strobe completes its time, and the byte is not counted as sent (R74, R78). -/
def State.failByte (s : State) (n : LinkId) : State :=
  match (s.link n).phase with
  | .none => s
  | .strobe => s.modLink n fun l => { l with handshakeTimer := none, stop := .notSent }
  | _ => s.modLink n Link.endByte

/-! ### SIGNAL -/

/-- Every output still pulsing is driven to its restore level and stops pulsing (R82). -/
def Link.restorePulses (l : Link) : Link :=
  { l with ctl0 := l.restore0.getD l.ctl0, ctl1 := l.restore1.getD l.ctl1, restore0 := none, restore1 := none,
           pulseTimer := none }

/-- A SIGNAL's wait and its limit timer end. -/
def Link.endWait (l : Link) : Link := { l with wait := none, limitTimer := none }

/-! ### Segment windows -/

/-- The segment window emptied, its mismatch point absent; a table read still outstanding will be dropped (R25,
R30). -/
def SegWindow.emptied (w : SegWindow) : SegWindow :=
  { SegWindow.reset with read := if w.read = .none then .none else .dropped }

/-! ### What a link gives up when it leaves RUNNING (R102, R121, R142) -/

/-- The link engine's own items: a SIGNAL ends with its outputs restored, gathering ends, the cursors become idle, the
store cursor at once too (log 37, DESIGN CHOICE). -/
def Link.giveUp (l : Link) : Link :=
  { l.restorePulses.endWait with
    sub := .idle
    handshakeTimer := none
    fillCursor := .idle
    storeCursor := .idle
    gathering := false
    endCause := if l.gathering then .error else l.endCause }

/-- The ring unit's: the segment windows are emptied and copies FILLING_AHEAD return to WAITING. -/
def RingUnit.giveUp (u : RingUnit) : RingUnit :=
  { u with
    fillWindow := u.fillWindow.emptied
    storeWindow := u.storeWindow.emptied
    window := u.window.map fun c => if c.exec = .fillingAhead then { c with exec := .waiting } else c }

/-- A link leaves RUNNING: its byte stops and it gives up cursors, timers and prefetched copies. Its line request,
being a function of the state, is withdrawn with it. -/
def State.giveUp (s : State) (n : LinkId) : State :=
  ((s.stopByte n).modLink n Link.giveUp).modUnit n RingUnit.giveUp

/-- How an inbound link's lines are settled (R144): sealed and stored after a link-side end, discarded after a store
failure. -/
inductive Settling where
  | linkSide | storeFailure
deriving DecidableEq, Repr

/-- What a hold or a cancellation does with the lines of link n: outbound lines are discarded (R143), inbound lines
settled (R144). -/
def State.settleLines (s : State) (n : LinkId) (how : Settling) : State :=
  match (s.link n).dir, how with
  | .outbound, _ => s.discardLines n fun _ => true
  | .inbound, .linkSide => s.sealEarly n
  | .inbound, .storeFailure => s.discardLines n fun x => x == .gathering || x == .sealed

/-- The link enters HOLDING (R142, R149). -/
def State.enterHolding (s : State) (n : LinkId) (cause : HoldCause) (held : Option Nat) (how : Settling) : State :=
  ((s.giveUp n).modLink n fun l =>
    { l with state := .holding, holdCause := some cause, heldCopy := held, holdRecord := .owed }).settleLines n how

/-! ### Copies that fail or are cancelled -/

/-- The copy of a slot enters FAILED, and DESC_FAILED rises (R12, R104). -/
def State.failCopy (s : State) (n : LinkId) (slot : Nat) (o : Code) (d : Detail) (bytes : Option Nat) : State :=
  (s.modUnit n fun u => u.modCopy slot fun c =>
      { c with exec := .failed, outcome := some o, detail := d, bytesDone := bytes }).modLink n fun l =>
    { l with descFailed := addCounter l.descFailed 1 }

/-- A copy of link n fails and the link enters HOLDING with cause ERROR (R142). -/
def State.failAndHold (s : State) (n : LinkId) (slot : Nat) (o : Code) (d : Detail) (bytes : Option Nat)
    (how : Settling) : State :=
  (s.failCopy n slot o d bytes).enterHolding n .error (some slot) how

/-- The CURRENT copy is cancelled: it enters DONE_UNRETIRED with CANCELLED and takes its bytes_done later (R149,
R155). A SEND is cancelled even where its last byte is sent in the same event (log 12, DEDUCED). -/
def State.cancelCurrent (s : State) (n : LinkId) : State :=
  s.modUnit n fun u =>
    { u with window := u.window.map fun c =>
        if c.exec = .current then { c with exec := .doneUnretired, outcome := some .cancelled, bytesDone := none }
        else c }

/-- A hold with cause STATUS_LOST (R149). A SEND whose last byte it stops is CANCELLED, not OK (log 12, DEDUCED). -/
def State.holdStatusLost (s : State) (n : LinkId) : State :=
  (s.cancelCurrent n).enterHolding n .statusLost none .linkSide

/-- The bytes_done of a finished copy, where it is fixed by now: for a SEND when no byte is under way (R101), for a
RECEIVE when gathering has ended and its list is empty (R120), else at once. -/
def Link.bytesDone (l : Link) (c : Copy) : Option Nat :=
  match c.kind with
  | some .send => if l.phase = .none then some l.sentCount else none
  | some .receive =>
    if !l.gathering && l.lines.isEmpty then some (min l.gathered (l.breakPos.getD l.gathered)) else none
  | _ => some 0

/-- Finished copies whose bytes_done was still open take it as soon as it is fixed. -/
def State.fixBytes (n : LinkId) (s : State) : State :=
  s.modUnit n fun u =>
    { u with window := u.window.map fun c =>
        if (c.exec = .doneUnretired ∨ c.exec = .failed) ∧ c.bytesDone = none
        then { c with bytesDone := (s.link n).bytesDone c } else c }

/-- The CURRENT copy ends without an error (R12); DESC_OK rises with OK (R104). -/
def State.finishCurrent (s : State) (n : LinkId) (o : Code) (bytes : Nat) : State :=
  (s.modUnit n fun u =>
    { u with window := u.window.map fun c =>
        if c.exec = .current then { c with exec := .doneUnretired, outcome := some o, bytesDone := some bytes }
        else c }).modLink n fun l =>
    { l with sub := .idle, descOk := if o = .ok then addCounter l.descOk 1 else l.descOk }

/-- The error event of a link about a copy's descriptor. -/
def linkEvent (n : LinkId) (cls : ErrorClass) (code : Code) (c : Copy) (address : Option Addr) (detail : Option Word) :
    ErrorEvent :=
  { cls := cls, code := code, source := .link n, tag := some c.tag, address := address, detail := detail }

/-! ### QUIESCING and STOPPED -/

/-- A cancellation by ABORT LINK or DELETE TRANSFER RING begins (R155). From RUNNING the work is cancelled; from
HOLDING and HELD it was given up at the hold. A SEND whose last byte this stops is CANCELLED, not OK (log 12,
DEDUCED). -/
def State.enterQuiescing (s : State) (n : LinkId) (c : Cancellation) : State :=
  let s' := if (s.link n).state = .running then ((s.cancelCurrent n).giveUp n).settleLines n .linkSide else s
  (s'.modLink n fun l => { l with state := .quiescing, cancellation := c, snapshot := some (s.unit n).tail }).modUnit n
    fun u => { u with reread := if u.reread = .wanted then .none else u.reread }

/-- Entry to STOPPED with a configuration: the STOPPED levels, and every item but the configuration, the attention
latch, an owed record and the counters at its reset value (R65, R67, R88, R105, R141). -/
def Link.stopped (l : Link) (cfg : LinkConfig) : Link :=
  { Link.reset with
    state := .stopped, config := cfg, ctl0 := cfg.ctl0Initial, ctl1 := cfg.ctl1Initial, attnLatch := l.attnLatch,
    attnOwed := l.attnOwed, bytesOut := l.bytesOut, bytesIn := l.bytesIn, descOk := l.descOk,
    descFailed := l.descFailed, linkTimeouts := l.linkTimeouts, linesDiscarded := l.linesDiscarded }

/-- The end of a DELETE's quiescing: the link enters STOPPED and the ring unit becomes UNBOUND (R3, R157). -/
def State.enterStopped (s : State) (n : LinkId) : State :=
  (s.modLink n fun l => l.stopped l.config).modUnit n fun _ => RingUnit.reset

/-- A link returns to RUNNING: the hold and cancellation items take their values of R141 (R151, R157). -/
def Link.running (l : Link) : Link :=
  { l with state := .running, sub := .idle, holdCause := none, heldCopy := none, holdRecord := .none,
           cancellation := .none, snapshot := none }

/-- A turnaround to a direction starts (R68). -/
def Link.turn (l : Link) (d : Direction) : Link :=
  { l with dir := d, turnTimer := some l.config.turnaround, lastByte := 0 }

end Sys2Proof.Machine
end

