-- ==== Sys2Proof/Machine/Offers.lean ====
section
/-! DEFINITION. Offers of link records, their answers, retirement, and what an event leaves a link's window and holds
to do in the same event (sections 1.6, 7.4, 8.1 to 8.5). -/

namespace Sys2Proof.Machine

/-! ### Records of a link (R126) -/

/-- A record of link n, with the snapshot of this moment (R86). -/
def State.linkRecord (s : State) (n : LinkId) (kind : RecordKind) (tag : BitVec 16) (o : Code) (bytes head : Nat)
    (cause : Option HoldCause) (d : Detail) : StatusRecord :=
  { kind := kind, source := .link n, tag := tag, outcome := o, bytesDone := bytes, ringHead := head,
    snapshot := s.snapshotOf n, holdCause := cause, detail := d }

/-- The index after slot i of a ring. -/
def RingUnit.after (u : RingUnit) (i : Nat) : Nat := (i + 1) % u.size

/-- The COMPLETION of a copy that retires with it (R15). -/
def State.completion (s : State) (n : LinkId) (c : Copy) : StatusRecord :=
  s.linkRecord n .completion c.tag (c.outcome.getD .ok) (c.bytesDone.getD 0) ((s.unit n).after c.slot) none .absent

/-- The COMPLETION with CANCELLED of a copy that never ran (R154, R156). -/
def State.cancelledRecord (s : State) (n : LinkId) (c : Copy) : StatusRecord :=
  s.linkRecord n .completion c.tag .cancelled 0 ((s.unit n).after c.slot) none .absent

/-- The hold record of a failed copy (R145, R147). -/
def State.failureRecord (s : State) (n : LinkId) (c : Copy) : StatusRecord :=
  s.linkRecord n .completion c.tag (c.outcome.getD .ok) (c.bytesDone.getD 0) c.slot (some .error) c.detail

/-- The PAUSE hold record of a copy just retired (R148). -/
def State.pauseRecord (s : State) (n : LinkId) (c : Copy) : StatusRecord :=
  s.linkRecord n .event c.tag .ok 0 (s.unit n).head (some .pause) .absent

/-- The STATUS_LOST hold record (R149). -/
def State.statusLostRecord (s : State) (n : LinkId) : StatusRecord :=
  s.linkRecord n .event 0 .cancelled 0 (s.unit n).head (some .statusLost) .absent

/-- A COMPLETION or hold record of the link stands (R127). -/
def Link.mainOffer (l : Link) : Option Offer := l.offers.find? (·.purpose != .attention)

/-- The ATTENTION record (R80); its ring_head is that of a COMPLETION or hold record that stands, else the head
(R15). -/
def State.attentionRecord (s : State) (n : LinkId) : StatusRecord :=
  s.linkRecord n .event 0 .attention 0
    (match (s.link n).mainOffer with | some o => o.record.ringHead | none => (s.unit n).head) none .absent

/-! ### Retirement (R13, R16) -/

/-- The front copy, where there is one, leaves the window and head moves past its slot. A re-read still wanted or
outstanding for it is no longer taken (R17). -/
def RingUnit.retireFront (u : RingUnit) : RingUnit :=
  match u.window with
  | _ :: w => { u with window := w, head := u.after u.head, reread := .none }
  | [] => u

/-- A fill cursor at the end of a descriptor stands there until the copy behind that descriptor has retired (R90): the
front copy of a window that no longer holds the descriptor is that copy. -/
def Cursor.afterRetiring (u : RingUnit) : Cursor → Cursor
  | .atEnd x => if (u.copy x).isSome then .atEnd x else .idle
  | p => p

def State.retireFront (s : State) (n : LinkId) : State :=
  (s.modUnit n RingUnit.retireFront).modLink n fun l =>
    { l with fillCursor := l.fillCursor.afterRetiring (s.unit n) }

/-! ### Answers -/

/-- The link is in HELD during a FLUSH, or in QUIESCING: it cancels its window. -/
def Link.cancelling (l : Link) : Bool :=
  l.state == .quiescing || (l.state == .held && l.cancellation == .flush)

/-- The hold record has been accepted or discarded, where the record answered is one. -/
def Link.holdAnswered (l : Link) (p : Purpose) : Link :=
  match p with
  | .holdRecord | .pause | .statusLost =>
    if l.holdRecord = .offered then { l with holdRecord := .done } else l
  | .attention => { l with attnOwed := false }
  | .retire => l

/-- A discarded answer reaches link n (R132, R149, R154 to R157): it holds a RUNNING link, gives a held one the cause
STATUS_LOST, and counts as an acceptance where the link cancels its window. A PAUSE record that is discarded in the
event that makes it finds its link HELD already: the cause alone changes, and no STATUS_LOST hold record is made (DESIGN
CHOICE, log 38: R149 names a PAUSE record among the offers of a RUNNING link). -/
def State.answerDiscarded (s : State) (n : LinkId) (p : Purpose) : State :=
  let s := s.modLink n (Link.holdAnswered · p)
  match (s.link n).state with
  | .running => s.holdStatusLost n
  | .holding => s.modLink n fun l => { l with holdCause := some .statusLost }
  | .held =>
    let s' := s.modLink n fun l => { l with holdCause := some .statusLost }
    if (s.link n).cancellation = .flush ∧ p = .retire then s'.retireFront n else s'
  | .quiescing => if p = .retire ∨ p = .holdRecord then s.retireFront n else s
  | .unconfigured | .stopped => s

/-- The status ring that link n reports to has failed (R132). -/
def State.boundRingFailed (s : State) (n : LinkId) : Bool :=
  match (s.unit n).statusRing with
  | some r => (s.ring (.s r)).state == .failed
  | none => false

/-- Link n makes an offer: it stands, or a FAILED ring discards it in the same event (R127, R132). -/
def State.putOffer (s : State) (n : LinkId) (o : Offer) : State :=
  let s := s.modLink n fun l =>
    { l with holdRecord := match o.purpose with
        | .holdRecord | .pause | .statusLost => .offered
        | .retire | .attention => l.holdRecord }
  if s.boundRingFailed n then (s.countDiscardedRecords 1).answerDiscarded n o.purpose
  else s.modLink n fun l => { l with offers := l.offers ++ [o] }

/-- An owed ATTENTION record is offered when a ring is bound (R80). -/
def State.offerAttention (s : State) (n : LinkId) : State :=
  if (s.link n).attnOwed && (s.unit n).bound && !(s.link n).offers.any (·.purpose == .attention) then
    s.putOffer n { purpose := .attention, record := s.attentionRecord n }
  else s

/-- The front copy retires with its record accepted, or without one. One with PAUSE_AFTER and outcome OK puts a RUNNING
link in HELD with cause PAUSE and offers the PAUSE record (R148); a FAILED ring that discards it in this event leaves
the link HELD with STATUS_LOST (DESIGN CHOICE, log 38). A link that is no longer RUNNING makes no PAUSE hold of it
(DESIGN CHOICE, log 39). -/
def State.retire (s : State) (n : LinkId) : State :=
  match (s.unit n).window with
  | c :: _ =>
    let s' := s.retireFront n
    if (s.link n).state = .running ∧ c.pauseAfter = true ∧ c.outcome = some .ok then
      let s' := (s'.giveUp n).modLink n fun l => { l with state := .held, holdCause := some .pause, heldCopy := none }
      s'.putOffer n { purpose := .pause, record := s'.pauseRecord n c }
    else s'
  | [] => s

/-- An offer of link n has been accepted (R13, R80, R145, R148, R156). -/
def State.answerAccepted (s : State) (n : LinkId) (p : Purpose) : State :=
  let s := s.modLink n (Link.holdAnswered · p)
  match p with
  | .retire => s.retire n
  | .holdRecord => if (s.link n).state = .quiescing then s.retireFront n else s
  | .pause | .statusLost | .attention => s

/-! ### The window and the hold after an event -/

/-- The held copy of link n stands at the front of the window. -/
def State.heldInFront (s : State) (n : LinkId) : Bool :=
  match (s.unit n).window with
  | c :: _ => (s.link n).heldCopy == some c.slot
  | [] => false

/-- The end of HOLDING (R145), and the STATUS_LOST hold record of a settled link (R149). A link that entered HOLDING
with cause ERROR makes that record only where a copy whose record was discarded keeps the held copy from the front (log
11). -/
def State.holdingStep (s : State) (n : LinkId) : Option State :=
  let l := s.link n
  if l.state = .holding ∧ l.lines = [] ∧ l.phase = .none then
    if l.holdRecord = .done then some (s.modLink n fun l => { l with state := .held })
    else if l.holdRecord = .owed ∧ l.holdCause = some .statusLost ∧ l.mainOffer = none ∧ s.heldInFront n = false then
      some (s.putOffer n { purpose := .statusLost, record := s.statusLostRecord n })
    else none
  else none

/-- Every posted, unfetched slot up to an index retires unseen (R16). -/
def State.retireUnseen (s : State) (n : LinkId) (upTo : Nat) : State :=
  s.modUnit n fun u => { u with head := upTo, fetched := upTo }

/-- The end of a FLUSH (R154). -/
def State.endFlush (s : State) (n : LinkId) : State :=
  let s' := s.retireUnseen n (s.unit n).tail
  let s' := if (s.link n).holdCause = some .statusLost
    then s'.modLink n fun l => { l with cancellation := .none, holdRecord := .done }
    else s'.modLink n Link.running
  s'.endCommand .ok

/-- The end of QUIESCING (R157): ABORT LINK returns to RUNNING; DELETE TRANSFER RING turns an inbound link around, and
stops an outbound one. -/
def State.endQuiescing (s : State) (n : LinkId) : State :=
  if (s.link n).cancellation = .delete then
    if (s.link n).dir = .inbound then s.modLink n (Link.turn · .outbound)
    else (s.enterStopped n).endCommand .ok
  else (s.modLink n Link.running).endCommand .ok

/-- What a cancellation does once the window is empty (R154, R156, R157). A STATUS_LOST hold record still owed when
ABORT LINK was taken is not made (log 31). -/
def State.cancellationStep (s : State) (n : LinkId) : Option State :=
  let l := s.link n
  let u := s.unit n
  if u.fetchOutstanding then none
  else if l.state = .held then some (s.endFlush n)
  else
    let target := l.snapshot.getD u.tail
    if u.head ≠ target ∨ u.fetched ≠ target then some (s.retireUnseen n target)
    else if l.lines = [] ∧ l.phase = .none ∧ l.turnTimer = none ∧ l.mainOffer = none then some (s.endQuiescing n)
    else none

/-- One act that the front of link n's window, its hold or its cancellation calls for in this event, if there is one: a
retirement without a record, an offer, the entry to HELD, or the end of a cancellation. A QUIET copy whose retirement
would make a PAUSE hold record waits for the COMPLETION or hold record that stands (R127, R148); where its status ring
fails meanwhile, it retires in HOLDING with STATUS_LOST, without a PAUSE hold or record (DESIGN CHOICE, log 39). A copy
in DONE_UNRETIRED that never offered its record, as one that waits there without QUIET, offers nothing while the cause
is STATUS_LOST (DESIGN CHOICE, log 40). A failed held copy in front offers its record in HOLDING whatever the cause has
become (R149). -/
def State.windowStep (n : LinkId) (s : State) : Option State :=
  let l := s.link n
  if s.partState ≠ .running ∨ l.state = .unconfigured ∨ l.state = .stopped then none
  else
    match (s.unit n).window with
    | [] => if l.cancelling then s.cancellationStep n else s.holdingStep n
    | c :: _ =>
      if c.exec = .doneUnretired ∧ c.outcome = some .ok ∧ c.quiet = true ∧
          ¬(l.state = .running ∧ c.pauseAfter = true ∧ l.mainOffer.isSome) then some (s.retire n)
      else if c.exec = .failed ∧ l.state = .quiescing ∧ ¬(l.heldCopy = some c.slot ∧ (l.holdRecord = .owed ∨
          l.holdRecord = .offered)) then some (s.retireFront n)
      else if l.mainOffer.isSome then s.holdingStep n
      else if c.exec = .doneUnretired then
        if c.bytesDone.isSome ∧ (l.cancelling = true ∨ l.holdCause ≠ some .statusLost) then
          some (s.putOffer n { purpose := .retire, record := s.completion n c })
        else s.holdingStep n
      else if c.exec = .failed then
        if c.bytesDone.isSome ∧ l.heldCopy = some c.slot ∧ l.holdRecord = .owed ∧
            (l.state = .quiescing ∨ l.state = .holding) then
          some (s.putOffer n { purpose := .holdRecord, record := s.failureRecord n c })
        else s.holdingStep n
      else if c.unstarted = true ∧ l.cancelling = true then
        some (s.putOffer n { purpose := .retire, record := s.cancelledRecord n c })
      else s.holdingStep n

/-- Acts taken one after the other while there is one, at most so many. -/
def iterate (f : State → Option State) : Nat → State → State
  | 0, s => s
  | k + 1, s =>
    match f s with
    | some s' => iterate f k s'
    | none => s

/-- All that an event leaves the window, the hold and the cancellation of link n to do in the same event. A window of
four copies takes at most two acts a copy, a hold two more and the end of a cancellation three. -/
def State.settleWindow (n : LinkId) (s : State) : State := iterate (State.windowStep n) 16 s

end Sys2Proof.Machine
end

