-- ==== Sys2Proof/Machine/Outbound.lean ====
section
/-! DEFINITION. A SEND from CURRENT to its end (sections 4.4 and 5): the fill cursor, the drain, the phases of a byte
and the ways a SEND ends. -/

namespace Sys2Proof.Machine

/-! ### The fill cursor (R89, R90) -/

/-- A cursor enters a descriptor at its first byte; its segment window is set up afresh (R25, R89, R106). -/
def State.enterDescriptor (s : State) (n : LinkId) (k : CursorKind) (slot : Nat) : State :=
  (s.setCursor n k (.inside slot 0 0)).modSegWindow n k SegWindow.emptied

/-- The fill cursor already stands in the SEND of a slot or in a copy behind it (R89). -/
def State.fillCursorAt (s : State) (n : LinkId) (slot : Nat) : Bool :=
  let u := s.unit n
  let behind (q : Nat) : Bool := (u.copy q).isSome && ringDist u.size u.head slot ≤ ringDist u.size u.head q
  match (s.link n).fillCursor with
  | .idle => false
  | .inside q _ _ => behind q
  | .atEnd q => behind q

/-- The fill cursor at the end of a SEND enters the copy behind it when prefetch is allowed there (R90). -/
def State.advanceFill (n : LinkId) (s : State) : State :=
  let l := s.link n
  let u := s.unit n
  match l.fillCursor with
  | .atEnd x =>
    if s.partState = .running ∧ l.state = .running ∧ l.dir = .outbound ∧ l.turnTimer = none
        ∧ ((u.copy x).map Copy.pauseAfter).getD false = false then
      match u.copy (u.after x) with
      | some c => if c.good .send && c.unstarted then s.enterDescriptor n .fill c.slot else s
      | none => s
    else s
  | _ => s

/-! ### How a SEND fails -/

/-- The CURRENT copy of link n fails with its bytes_done fixed now, and the link holds (R97 to R99). -/
def State.failSend (s : State) (n : LinkId) (c : Copy) (o : Code) (d : Detail) (cls : Option (ErrorClass × Option Addr
    × Option Word)) : State :=
  let s' := match cls with
    | some (k, a, v) => s.logEvent (linkEvent n k o c a v)
    | none => s
  s'.failAndHold n c.slot o d (some (s.link n).sentCount) .linkSide

/-- The address of entry i of a TABLE descriptor, as the error log takes it (R29). That of index entry_count lies out of
reach where the table ends at the top of memory (log 28). -/
def Descriptor.entryAddr (d : Descriptor) (i : Nat) : Addr :=
  if d.addr0.toNat + 16 * i < Config.reach then BitVec.ofNat 48 (d.addr0.toNat + 16 * i) else Config.addressPastReach i

/-- What the error log takes at a mismatch point: an event of class DESCRIPTOR for SEGMENT_MISMATCH only (R29, R98). -/
def mismatchEvent (c : Copy) (i : Nat) (o : Code) : Option (ErrorClass × Option Addr × Option Word) :=
  if o = .segmentMismatch then
    some (.descriptor, c.desc.map fun d => d.entryAddr i, some (BitVec.ofNat 32 i))
  else none

/-- A link error of the CURRENT SEND (R87, R99): LINK_TIMEOUT or LINK_FAULT. -/
def State.linkErrorSend (s : State) (n : LinkId) (c : Copy) (o : Code) : State :=
  ((s.failByte n).modLink n fun l =>
      { l with linkTimeouts := if o = .linkTimeout then addCounter l.linkTimeouts 1 else l.linkTimeouts }).failSend
    n c o .absent (some (.link, none, none))

/-! ### The drain (R70, R95 to R98) -/

/-- The data of a byte is driven and its setup time runs (R71, R72). -/
def State.enterSetup (s : State) (n : LinkId) : State :=
  match s.drainingLine n with
  | some i =>
    s.modLink n fun l =>
      { l with phase := .setup, phaseTimer := some l.config.setup, handshakeTimer := none, ackSeen := false,
               stop := .none, lastByte := (s.line i).data[(s.line i).offset]?.getD 0 }
  | none => s

/-- A byte cycle starts (R70 to R72): BUSY_WAIT ends at once where BUSY is low. -/
def State.startByte (s : State) (n : LinkId) : State :=
  match (s.link n).config.handshake with
  | .none => s
  | .timed => s.enterSetup n
  | .paced | .busyOnly =>
    if (s.pin n).busy then
      s.modLink n fun l => { l with phase := .busyWait, handshakeTimer := startTimer l.config.timeout }
    else s.enterSetup n

/-- The CURRENT SEND stands at its mismatch point with none of its lines left (R98). -/
def State.sendAtPoint (s : State) (n : LinkId) (c : Copy) : Option (Nat × Code) :=
  if (match (s.link n).fillCursor with | .inside q _ _ => q == c.slot | _ => false)
      && atMismatch (s.link n).fillCursor (s.unit n).fillWindow
      && !(s.link n).lines.any fun i => (s.line i).descSlot == c.slot
  then (s.unit n).fillWindow.mismatch else none

/-- The drain goes on where no byte is under way: the front line starts or goes on draining, a FAILED front line or a
mismatch point reached fails the SEND (R44, R46, R70, R95, R97, R98). -/
def State.drain (n : LinkId) (s : State) : State :=
  let l := s.link n
  match (s.unit n).current with
  | some c =>
    if s.partState = .running ∧ l.state = .running ∧ l.sub = .sending ∧ l.phase = .none then
      match s.sendAtPoint n c with
      | some (i, o) => s.failSend n c o (.segment i) (mismatchEvent c i o)
      | none =>
        match l.lines with
        | [] => s
        | i :: _ =>
          match (s.line i).state with
          | .draining => s.startByte n
          | .ready => (s.modLine i fun x => { x with state := .draining }).startByte n
          | .failed =>
            (s.freeLine i).failSend n c ((s.line i).error.getD .memoryReadError) .absent
              (some (.memory, some (s.line i).address, none))
          | _ => s
    else s
  | none => s

/-- A SEND becomes CURRENT (R78, R89, R95, R96). With fault_stops set and FAULT# low it ends at once. -/
def State.startSend (s : State) (n : LinkId) (c : Copy) : State :=
  let s := (s.modUnit n fun u => u.modCopy c.slot fun c => { c with exec := .current }).modLink n fun l =>
    { l with sub := .sending, sentCount := 0 }
  if (s.link n).config.faultStops && !(s.pin n).fault then s.linkErrorSend n c .linkFault
  else if s.fillCursorAt n c.slot then s
  else s.enterDescriptor n .fill c.slot

/-- The oldest unstarted copy, and the copies ahead of it. -/
def RingUnit.nextCopy (u : RingUnit) : Option (List Copy × Copy) :=
  match u.window.find? (·.unstarted) with
  | some c => some (u.window.takeWhile (fun x => !x.unstarted), c)
  | none => none

/-- Every copy ahead of a SEND lets it start: a SEND in DONE_UNRETIRED without PAUSE_AFTER (R35, R36). -/
def aheadAllowsSend (ahead : List Copy) : Bool :=
  ahead.all fun c => c.exec == .doneUnretired && c.kind == some .send && !c.pauseAfter

/-- The next SEND becomes CURRENT in the event that ends the one before it, where R35 allows (R96). -/
def State.startNextSend (s : State) (n : LinkId) : State :=
  match (s.unit n).nextCopy with
  | some (ahead, c) => if c.good .send && aheadAllowsSend ahead then s.startSend n c else s
  | none => s

/-- A byte completes (R45, R70, R95): a line whose last byte it was becomes FREE, and a marked one ends the SEND
(R96). -/
def State.completeByte (s : State) (n : LinkId) : State :=
  let ends := match s.drainingLine n with
    | some i => (s.line i).last && (s.line i).length ≤ (s.line i).offset + 1
    | none => false
  let s := (s.modLink n Link.endByte).countSent n
  if ends then (s.finishCurrent n .ok (s.link n).sentCount).startNextSend n else s

/-- BUSY_AFTER begins: the byte completes at once where BUSY is low (R71). -/
def State.enterBusyAfter (s : State) (n : LinkId) : State :=
  if (s.pin n).busy then
    s.modLink n fun l =>
      { l with phase := .busyAfter, phaseTimer := none, handshakeTimer := startTimer l.config.timeout }
  else s.completeByte n

/-- The setup time runs out: STB# is driven low and the strobe time runs; under PACED the acknowledge wait begins
(R70, R71). -/
def State.beginStrobe (s : State) (n : LinkId) : State :=
  s.modLink n fun l =>
    { l with phase := .strobe, phaseTimer := some l.config.strobe, ackSeen := false, stop := .none,
             handshakeTimer := if l.config.handshake = .paced then startTimer l.config.timeout else none }

/-- The DRAINING line of a stopped byte becomes FREE, counted in LINES_DISCARDED unless the part has left RUNNING
(R45, R59, R61). -/
def State.dropDraining (s : State) (n : LinkId) : State :=
  match s.drainingLine n with
  | some i => if s.partState = .running then s.freeCounted n i else s.freeLine i
  | none => s

/-- The outputs' levels after a halt or soft reset: CTL0 and CTL1 low (R85). -/
def Link.ctlLow (l : Link) : Link := { l with ctl0 := false, ctl1 := false }

/-- A strobe that was stopped runs out: the byte ends as its stop gave (R73, R74, R78), and its line becomes FREE. -/
def State.endStopped (s : State) (n : LinkId) : State :=
  let s' := if (s.link n).stop = .sent then (s.modLink n Link.endByte).countSent n else s.modLink n Link.endByte
  let s' := s'.dropDraining n
  if s'.partState = .running then s' else s'.modLink n Link.ctlLow

/-- The strobe time runs out and STB# goes high (R70 to R73). -/
def State.endStrobe (s : State) (n : LinkId) : State :=
  let l := s.link n
  if l.stop ≠ .none then s.endStopped n
  else
    match l.config.handshake with
    | .paced =>
      if l.ackSeen then s.enterBusyAfter n
      else s.modLink n fun l => { l with phase := .ackWait, phaseTimer := none }
    | _ =>
      if l.config.hold = 0 then s.completeByte n
      else s.modLink n fun l => { l with phase := .hold, phaseTimer := some l.config.hold }

/-- An ACK# pulse ends while a PACED byte awaits it (R71). During STROBE it is remembered until the strobe ends, and
its wait's timer stops (R74). -/
def State.acknowledge (s : State) (n : LinkId) : State :=
  let l := s.link n
  match l.phase with
  | .ackWait => s.enterBusyAfter n
  | .strobe =>
    if l.config.handshake = .paced ∧ l.stop = .none then
      s.modLink n fun l => { l with ackSeen := true, handshakeTimer := none }
    else s
  | _ => s

end Sys2Proof.Machine
end

