-- ==== Sys2Proof/Machine/Inbound.lean ====
section
/-! DEFINITION. A RECEIVE from CURRENT to its end (sections 4.5 and 6): starting, latching bytes, the ways gathering and
the RECEIVE end, and the ends of its stores. -/

namespace Sys2Proof.Machine

/-- Gathering ends with a cause (R111); the handshake timer runs only while gathering (R77). -/
def Link.endGathering (l : Link) (e : EndCause) : Link :=
  if l.gathering then { l with gathering := false, endCause := e, handshakeTimer := none } else l

/-- The CURRENT RECEIVE of link n fails (R116 to R119): its bytes_done is fixed when its list is empty (R120). -/
def State.failReceive (s : State) (n : LinkId) (c : Copy) (o : Code) (d : Detail)
    (event : Option (ErrorClass × Option Addr × Option Word)) (how : Settling) : State :=
  let s' := match event with
    | some (k, a, v) => s.logEvent (linkEvent n k o c a v)
    | none => s
  (s'.modLink n (Link.endGathering · .error)).failAndHold n c.slot o d none how

/-- A link error of the CURRENT RECEIVE (R87, R117): LINK_TIMEOUT, LINK_OVERRUN or LINK_FAULT. -/
def State.linkErrorReceive (s : State) (n : LinkId) (c : Copy) (o : Code) : State :=
  (s.modLink n fun l =>
      { l with linkTimeouts := if o = .linkTimeout then addCounter l.linkTimeouts 1 else l.linkTimeouts }).failReceive
    n c o .absent (some (.link, none, none)) .linkSide

/-- A RECEIVE becomes CURRENT (R81, R106). With fault_stops set and FAULT# low it ends at once (R78). -/
def State.startReceive (s : State) (n : LinkId) (c : Copy) : State :=
  let s := (s.modUnit n fun u => u.modCopy c.slot fun c => { c with exec := .current }).modLink n fun l =>
    { l with sub := .receiving, attnLatch := false, gathering := true, endCause := .none, gathered := 0,
             breakPos := none }
  let s := s.enterDescriptor n .store c.slot
  if (s.link n).config.faultStops && !(s.pin n).fault then s.linkErrorReceive n c .linkFault else s

/-- The byte_count of a copy. -/
def Copy.byteCount (c : Copy) : Nat := (c.desc.map (·.byteCount)).getD 0

/-- A byte is latched into line i, which can take it (R76, R77, R110). A full line seals itself, and the line that
takes the byte_count-th byte ends the gathering and carries the mark, where a table ends at a mismatch point there too
(R40, R115; log 36). STB# goes low with the seal, and the handshake timer stops (R77). -/
def State.latchInto (s : State) (n : LinkId) (c : Copy) (i : LineId) (d : Byte) : State :=
  let x := s.line i
  let full : Bool := x.length ≤ x.offset + 1
  let complete : Bool := (s.link n).gathered + 1 == c.byteCount
  let s := s.modLine i fun x =>
    { x with
      data := x.data.setIfInBounds x.offset d
      offset := x.offset + 1
      state := if full then .sealed else x.state
      last := full && complete }
  s.modLink n fun l =>
    let l' := { l with
      gathered := l.gathered + 1
      handshakeTimer := if full then none else startTimer l.config.timeout }
    if complete then l'.endGathering .count else l'

/-- The error event of a byte that no RECEIVE can take (R76). -/
def unsolicited (n : LinkId) : ErrorEvent :=
  { cls := .link, code := .unsolicitedOverrun, source := .link n, tag := none, address := none, detail := none }

/-- A rising edge of ACK# with DIR 1: the CURRENT RECEIVE latches the byte, or is overrun by it; any other byte is
unsolicited (R76). -/
def State.latch (s : State) (n : LinkId) (d : Byte) : State :=
  match (s.unit n).current with
  | none => s.logEvent (unsolicited n)
  | some c =>
    if c.kind = some .receive then
      match s.gatheringRoom n with
      | some i => if s.canAccept n then s.latchInto n c i d else s.linkErrorReceive n c .linkOverrun
      | none => s.linkErrorReceive n c .linkOverrun
    else s.logEvent (unsolicited n)

/-- A rising edge of ATTN while gathering (R79, R116). With SHORT_IS_ERROR the RECEIVE fails in this event. -/
def State.attnEndsReceive (s : State) (n : LinkId) (c : Copy) : State :=
  let s := (s.modLink n (Link.endGathering · .attn)).sealEarly n
  if (c.desc.map (·.shortIsError)).getD false then
    s.failReceive n c .endedEarly .absent (some (.link, none, none)) .linkSide
  else s

/-- What a RECEIVE comes to once its list is empty: the end of a transfer that gathered all it will (R115), or its
mismatch point (R119). -/
def State.checkReceive (n : LinkId) (s : State) : State :=
  let l := s.link n
  let w := (s.unit n).storeWindow
  match (s.unit n).current with
  | some c =>
    if s.partState = .running ∧ l.state = .running ∧ l.sub = .receiving ∧ l.lines = [] then
      if l.gathering then
        match w.mismatch with
        | some (i, o) =>
          if atMismatch l.storeCursor w then s.failReceive n c o (.segment i) (mismatchEvent c i o) .linkSide else s
        | none => s
      else
        match l.endCause, w.mismatch with
        | .count, some (i, o) => s.failReceive n c o (.segment i) (mismatchEvent c i o) .linkSide
        | .count, none =>
          (s.finishCurrent n .ok l.gathered).modLink n fun l => { l with storeCursor := .idle }
        | .attn, _ =>
          ((s.finishCurrent n .endedEarly l.gathered).modLink n fun l => { l with storeCursor := .idle }).modUnit n
            fun u => { u with storeWindow := u.storeWindow.emptied }
        | _, _ => s
    else s
  | none => s

/-- The copy of the RECEIVE that owns the inbound lines of link n: the one of the line's slot. -/
def State.lineCopy (s : State) (n : LinkId) (i : LineId) : Option Copy := (s.unit n).copy (s.line i).descSlot

/-- A store ends with DONE (R50, R114, R122). -/
def State.storedLine (s : State) (n : LinkId) (i : LineId) : State :=
  (s.modLink n fun l => { l with bytesIn := addCounter l.bytesIn (s.line i).length }).freeLine i

/-- A store fails (R50, R118, R144): the break position moves, an event is logged, a RECEIVE that has neither failed
nor been cancelled fails, and lines behind it are discarded. -/
def State.storeFailed (s : State) (n : LinkId) (i : LineId) (o : Code) : State :=
  let x := s.line i
  let e : ErrorEvent :=
    { cls := .memory, code := o, source := .link n, tag := (s.lineCopy n i).map Copy.tag, address := some x.address,
      detail := none }
  let s' := (((s.modLink n fun l => l.breakAt x.startOffset).freeLine i).logEvent e)
  match (s'.unit n).current with
  | some c =>
    if (s'.link n).state = .running then
      (s'.modLink n (Link.endGathering · .error)).failAndHold n c.slot o .absent none .storeFailure
    else s'
  | none => s'.settleLines n .storeFailure

end Sys2Proof.Machine
end

