-- ==== Sys2Proof/Machine/Signal.lean ====
section
/-! DEFINITION. SIGNAL execution and the control outputs (section 4.8), and what one event leaves a link to do in the
same event. -/

namespace Sys2Proof.Machine

/-! ### The control outputs -/

/-- One output's level and restore level after an action (R82). -/
def CtlAction.apply (a : Option CtlAction) (level : Bool) (restore : Option Bool) : Bool × Option Bool :=
  match a with
  | some .low => (false, none)
  | some .high => (true, none)
  | some .pulse => (!level, some level)
  | some .keep | none => (level, restore)

/-- Both actions of a SIGNAL, applied together (R82). -/
def Link.applyActions (l : Link) (d : Descriptor) : Link :=
  let a := CtlAction.apply d.ctl0 l.ctl0 l.restore0
  let b := CtlAction.apply d.ctl1 l.ctl1 l.restore1
  { l with
    ctl0 := a.1, restore0 := a.2, ctl1 := b.1, restore1 := b.2
    pulseTimer := if a.2.isSome || b.2.isSome then some d.pulseWidth else none
    attnLatch := l.attnLatch && !d.clearAttention }

/-- No output is pulsing. -/
def Link.quietOutputs (l : Link) : Bool := l.restore0.isNone && l.restore1.isNone

/-! ### The wait (R83) -/

/-- The wait of the CURRENT SIGNAL begins: it ends at once with OK where there is nothing to wait for. -/
def State.beginWait (s : State) (n : LinkId) : State :=
  match (s.unit n).current.bind (·.desc) with
  | some d =>
    let w := d.wait.getD .none
    if levelMeets (s.pin n) w then s.finishCurrent n .ok 0
    else s.modLink n fun l => { l with wait := some w, limitTimer := startTimer d.waitLimit }
  | none => s

/-- The awaited input stands at its level: the SIGNAL ends with OK (R83). -/
def State.checkWait (s : State) (n : LinkId) : State :=
  match (s.link n).wait with
  | some w => if levelMeets (s.pin n) w then (s.modLink n Link.endWait).finishCurrent n .ok 0 else s
  | none => s

/-- A SIGNAL becomes CURRENT (R82). -/
def State.startSignal (s : State) (n : LinkId) (c : Copy) : State :=
  let s := (s.modUnit n fun u => u.modCopy c.slot fun c => { c with exec := .current }).modLink n fun l =>
    match c.desc with
    | some d => { l.applyActions d with sub := .signalling }
    | none => { l with sub := .signalling }
  if (s.link n).quietOutputs then s.beginWait n else s

/-- The pulse phase ends (R82). -/
def State.endPulse (s : State) (n : LinkId) : State :=
  let s := s.modLink n Link.restorePulses
  if (s.link n).sub = .signalling then s.beginWait n else s

/-- SET LINES gives an output a level: its pulse, if any, ends without its restore (R84). -/
def Link.setLevels (l : Link) (c0 c1 : Option Bool) : Link :=
  { l with
    ctl0 := c0.getD l.ctl0
    restore0 := if c0.isSome then none else l.restore0
    ctl1 := c1.getD l.ctl1
    restore1 := if c1.isSome then none else l.restore1 }

/-- SET LINES on link n; the pulse phase of a SIGNAL ends when it has ended every pulse (R82, R84). -/
def State.setLevels (s : State) (n : LinkId) (c0 c1 : Option Bool) : State :=
  let pulsing := (s.link n).pulseTimer.isSome
  let s := s.modLink n (Link.setLevels · c0 c1)
  if pulsing && (s.link n).quietOutputs then s.endPulse n else s

/-- The limit timer expires (R83, R146). -/
def State.waitExpired (s : State) (n : LinkId) : State :=
  match (s.unit n).current with
  | some c =>
    let s := s.modLink n Link.endWait
    if (c.desc.map (·.expiryIsError)).getD false then
      (s.logEvent (linkEvent n .link .waitExpired c none none)).failAndHold n c.slot .waitExpired .absent (some 0)
        .linkSide
    else s.finishCurrent n .waitExpired 0
  | none => s

/-! ### The rest of an event at a link -/

/-- All that an event leaves link n to do in the same event: the drain, the end of a RECEIVE, bytes_done that has
become fixed, the fill cursor, and the window with its hold or cancellation, which may fix a bytes_done again (R149).
Outside RUNNING it does nothing (R65). -/
def State.serveLink (n : LinkId) (s : State) : State :=
  if s.partState = .running then
    (((((s.drain n).checkReceive n).fixBytes n).advanceFill n).settleWindow n).fixBytes n
  else s

end Sys2Proof.Machine
end

