-- ==== Sys2Proof/Machine/StatusUnit.lean ====
section
/-! DEFINITION. The status unit (section 7): accepting offers, the interrupt state, releases, what the writers offer to
the bus master, and the failure of a ring. -/

namespace Sys2Proof.Machine

/-! ### Acceptance (R128) -/

/-- The offer a producer presents to a ring: of a link its oldest one. -/
def State.presented (s : State) (r : RingId) : Producer → Option StatusRecord
  | .link n =>
    if r = .s ((s.unit n).statusRing.getD 0) ∧ (s.unit n).statusRing.isSome then
      ((s.link n).offers.head?).map (·.record)
    else none
  | .control => if r = .sc then s.control.resultOffer else none
  | .log => if r = .sc then s.notices.head? else none

/-- The producers in the order in which a ring visits them after a pointer. -/
def producersAfter : Producer → List Producer
  | .link n =>
    match n with
    | 0 => [.link 1, .link 2, .link 3, .control, .log, .link 0]
    | 1 => [.link 2, .link 3, .control, .log, .link 0, .link 1]
    | 2 => [.link 3, .control, .log, .link 0, .link 1, .link 2]
    | 3 => [.control, .log, .link 0, .link 1, .link 2, .link 3]
  | .control => [.log, .link 0, .link 1, .link 2, .link 3, .control]
  | .log => [.link 0, .link 1, .link 2, .link 3, .control, .log]

/-- The producer whose offer a ring accepts next, if one presents one. -/
def State.nextProducer (s : State) (r : RingId) : Option Producer :=
  (producersAfter (s.ring r).pointer).find? fun p => (s.presented r p).isSome

/-- The producer is told that its offer has been accepted, and goes on in the same event (R128). -/
def State.tellAccepted (s : State) : Producer → State
  | .link n =>
    match (s.link n).offers with
    | o :: os => ((s.modLink n fun l => { l with offers := os }).answerAccepted n o.purpose).serveLink n
    | [] => s
  | .control => s.resultAccepted
  | .log => { s with notices := s.notices.tail }

/-- Ring r has room for a record and may take one (R128). -/
def State.hasPlace (s : State) (r : RingId) : Bool :=
  s.partState == .running && (s.ring r).state == .active && (s.ring r).pending.length < Config.pendingSize

/-- The ring takes the record a producer presents at the back of its pending list (R128). -/
def StatusRing.take (x : StatusRing) (p : Producer) (rec : StatusRecord) : StatusRing :=
  { x with pending := x.pending ++ [rec], pointer := p }

/-- Ring r accepts one standing offer, where one stands and a place is free (R128). -/
def State.acceptOne (s : State) (r : RingId) : State :=
  if s.hasPlace r then
    match s.nextProducer r with
    | some p =>
      match s.presented r p with
      | some rec => (s.modRing r (StatusRing.take · p rec)).tellAccepted p
      | none => s
    | none => s
  else s

/-- The status rings, SC last: what S0 to S3 accept may lead a link to end a command, whose RESULT goes to SC. -/
def ringIds : List RingId := [.s 0, .s 1, .s 2, .s 3, .sc]

/-- Of two offers made in the same event a link presents the COMPLETION or hold record first (R127). -/
def Link.mainFirst (l : Link) : Link :=
  { l with offers := l.offers.filter (·.purpose != .attention) ++ l.offers.filter (·.purpose == .attention) }

/-- An offer is accepted in the event that makes it (R128). What its link then makes is made in that event too, and so
stands before an ATTENTION record of the event (R127): a PAUSE hold record after the retirement of a SIGNAL that a
rising edge of ATTN ended. -/
def State.acceptNew (s : State) (r : RingId) : State :=
  match s.nextProducer r with
  | some (.link n) => (s.acceptOne r).modLink n Link.mainFirst
  | _ => s.acceptOne r

/-- The next acceptance, while a ring with a free place has an offer standing. -/
def State.acceptNext (s : State) : Option State :=
  (ringIds.find? fun r => s.hasPlace r && (s.nextProducer r).isSome).map s.acceptNew

/-- Every offer that an event leaves standing is accepted in that event while its ring has room, and so is each offer
that its producer then makes (R128). Five lists have eight places each. -/
def State.acceptOffers (s : State) : State := iterate State.acceptNext 40 s

/-! ### What a ring's writer waits to issue (R129, R136, R137) -/

/-- A due message may be offered (R136). -/
def StatusRing.messageReady (x : StatusRing) : Bool :=
  x.msgDue && x.writeOutstanding.isNone && !x.msgOutstanding

/-- A status write may be offered (R129). -/
def StatusRing.writeReady (x : StatusRing) : Bool :=
  x.state == .active && !x.pending.isEmpty && !x.full && x.writeOutstanding.isNone && !x.msgDue

/-- The ring after its status write has been issued (R125, R129). -/
def StatusRing.issueWrite (x : StatusRing) : StatusRing :=
  { x with
    pending := x.pending.tail
    writeOutstanding := some x.tail
    tail := (x.tail + 1) % x.size
    phase := if (x.tail + 1) % x.size = 0 then !x.phase else x.phase }

/-- The ring after its message has been issued (R136). -/
def StatusRing.issueMessage (x : StatusRing) : StatusRing := { x with msgDue := false, msgOutstanding := true }

/-! ### The interrupt state (R134, R135) -/

/-- A message is made due and the ring enters SIGNALLED. -/
def StatusRing.signal (x : StatusRing) : StatusRing :=
  { x with msgDue := true, intState := .signalled, modTimer := none }

/-- What a status write that ended with DONE does to the interrupt state (R134). -/
def StatusRing.noteWrite (x : StatusRing) : StatusRing :=
  if x.msgAddr = 0 then x
  else
    match x.intState with
    | .armed =>
      if x.modCount ≤ 1 then x.signal
      else { x with intState := .moderating, written := 1, modTimer := startTimer x.modDelay }
    | .moderating =>
      let x' := { x with written := x.written + 1 }
      if x.modCount ≤ x'.written then x'.signal else x'
    | .signalled => x

/-- A status write ended with DONE (R130): the record counts as unreleased unless the released head has passed its
slot. -/
def StatusRing.writeDone (x : StatusRing) : StatusRing :=
  { x with
    writeOutstanding := none
    unreleased := if x.releasedHead = x.tail then x.unreleased else x.unreleased + 1 }.noteWrite

/-- What a release does to the interrupt state (R135). -/
def StatusRing.noteRelease (x : StatusRing) : StatusRing :=
  if x.msgAddr = 0 then x
  else if 0 < x.unreleased then { x.signal with written := 0 }
  else { x with intState := .armed, written := 0, modTimer := none }

/-- A release in range (R133). -/
def StatusRing.releaseTo (x : StatusRing) (h : Nat) : StatusRing :=
  let x' := { x with
    releasedHead := h
    unreleased := x.unreleased - min (ringDist x.size x.releasedHead h) x.unreleased }
  if x.state = .active then x'.noteRelease else x'

/-- A release is refused (R133). -/
def StatusRing.refusesRelease (x : StatusRing) (h : Nat) : Bool :=
  x.state == .absent || x.size ≤ h || ringDist x.size x.releasedHead x.tail < ringDist x.size x.releasedHead h

/-- A release taken by the status unit (R133). -/
def State.release (s : State) (r : RingId) (h : Nat) : State :=
  if (s.ring r).refusesRelease h then
    s.logEvent { cls := .register, code := .releaseRange, source := .ring r, tag := none, address := none,
                 detail := some (BitVec.ofNat 32 h) }
  else s.modRing r (StatusRing.releaseTo · h)

/-- The moderation timer expires (R134). -/
def State.moderationExpired (s : State) (r : RingId) : State :=
  if s.partState = .running ∧ (s.ring r).modTimer.isSome ∧ (s.ring r).intState = .moderating then
    s.modRing r StatusRing.signal
  else s

/-! ### Creation and deletion (R124) -/

/-- A ring as its creation sets it. -/
def StatusRing.create (base size msgAddr msgData modCount modDelay : Nat) : StatusRing :=
  { StatusRing.reset with
    state := .active, base := BitVec.ofNat 48 base, size := size, msgAddr := BitVec.ofNat 48 msgAddr,
    msgData := BitVec.ofNat 32 msgData, modCount := modCount, modDelay := modDelay }

/-- The routes of writes that a ring has outstanding when it is deleted lead nowhere from then on. -/
def Route.orphan (r : RingId) : Route → Route
  | .status r' slot live => .status r' slot (live && r' != r)
  | .message r' live => .message r' (live && r' != r)
  | x => x

/-- DELETE STATUS RING makes the ring ABSENT; its pending records are discarded and counted (R124, R140). -/
def State.deleteRing (s : State) (n : LinkId) : State :=
  let s := s.countDiscardedRecords (s.ring (.s n)).pending.length
  { s.modRing (.s n) fun _ => StatusRing.reset with
    writeSlots := s.writeSlots.map fun x => { x with route := x.route.map (Route.orphan (.s n)) } }

/-! ### The failure of a ring (R132) -/

/-- The ring itself enters FAILED: its list is emptied, its timer stopped, its message cleared. -/
def StatusRing.fail (x : StatusRing) : StatusRing :=
  { x with state := .failed, pending := [], writeOutstanding := none, modTimer := none, msgDue := false }

/-- Every offer of link n that stands is discarded, and the link goes on in the same event (R132, R149). -/
def State.discardOffers (s : State) (n : LinkId) : State :=
  let offers := (s.link n).offers
  let s := (s.modLink n fun l => { l with offers := [] }).countDiscardedRecords offers.length
  if offers.isEmpty then s
  else (offers.foldl (fun s o => s.answerDiscarded n o.purpose) s).serveLink n

/-- A status write of S0 to S3 fails: the ring enters FAILED, its records and standing offers are discarded and
counted, and an event of class MEMORY is logged (R132). -/
def State.failRing (s : State) (n : LinkId) (slot : Nat) (o : Code) : State :=
  let x := s.ring (.s n)
  let s := (s.countDiscardedRecords (1 + x.pending.length)).modRing (.s n) StatusRing.fail
  let s := s.logEvent { cls := .memory, code := o, source := .ring (.s n), tag := none,
                        address := some (x.slotAddr slot), detail := none }
  forEach State.discardOffers (allLinks.filter fun m => (s.unit m).statusRing == some n) s

end Sys2Proof.Machine
end

