-- ==== Sys2Proof/Machine/RingUnit.lean ====
section
/-! DEFINITION. The ring units (sections 1 and 2): notifies, descriptor fetches and re-reads, the checks of a copy, and
segment table reads. -/

namespace Sys2Proof.Machine

/-- The outcome of a failed read (R9, R28, R42). -/
def readCode : MemFailure → Code
  | .error => .memoryReadError
  | .timeout => .memoryTimeout

/-- The outcome of a failed write (R50, R132). -/
def writeCode : MemFailure → Code
  | .error => .memoryWriteError
  | .timeout => .memoryTimeout

/-! ### Notifies (R4, R5, R156) -/

/-- Why a notify is refused, where it is (R4). -/
def RingUnit.notifyRefusal (u : RingUnit) (t : Nat) : Option Code :=
  if !u.bound then some .notifyUnbound
  else if u.size ≤ t then some .notifyRange
  else if ringDist u.size u.head t < u.fetchedCount then some .notifyRetract
  else none

/-- A notify that moves the tail before the snapshot of a QUIESCING link moves the snapshot back (R156). -/
def snapshotAfter (u : RingUnit) (t : Nat) (snap : Option Nat) : Option Nat :=
  snap.map fun x => if ringDist u.size u.head t < ringDist u.size u.head x then t else x

/-- A notify taken by ring unit Tn (R4, R5). -/
def State.notify (s : State) (n : LinkId) (t : Nat) : State :=
  match (s.unit n).notifyRefusal t with
  | some code =>
    s.logEvent { cls := .register, code := code, source := .ringUnit n, tag := none, address := none,
                 detail := some (BitVec.ofNat 32 t) }
  | none =>
    (s.modUnit n fun u => { u with tail := t }).modLink n fun l =>
      { l with snapshot := if l.state = .quiescing then snapshotAfter (s.unit n) t l.snapshot else l.snapshot }

/-! ### Checks of a copy (R18 to R23) -/

/-- A segment length in range (R20). -/
def segmentLengthOk (len : Nat) : Bool := 1 ≤ len && len ≤ Config.maxSegment

/-- Check 4 of R23: the segment form and its counts and lengths. -/
def Descriptor.formOk (d : Descriptor) : Bool :=
  match d.form with
  | some .inline =>
    (d.segmentCount == 1 || d.segmentCount == 2) && segmentLengthOk d.len0
      && (d.segmentCount == 1 || segmentLengthOk d.len1)
  | some .table => 1 ≤ d.entryCount && d.entryCount ≤ 64
  | none => false

/-- Check 5 of R23: the addresses. -/
def Descriptor.addressOk (d : Descriptor) : Bool :=
  match d.form with
  | some .inline =>
    inReach d.addr0.toNat d.len0 && (d.segmentCount == 1 || inReach d.addr1.toNat d.len1)
  | some .table => d.tableAddr % 16 == 0 && inReach d.tableAddr (16 * d.entryCount)
  | none => false

/-- Check 6 of R23: the fields of a SIGNAL (R22). -/
def Descriptor.signalOk (d : Descriptor) : Bool :=
  d.ctl0.isSome && d.ctl1.isSome && d.wait.isSome
    && !((d.ctl0 == some .pulse || d.ctl1 == some .pulse) && d.pulseWidth == 0)

/-- The verdict of a copy, by the first check that fails (R23). -/
def Descriptor.check (d : Descriptor) (cfg : LinkConfig) : Verdict :=
  match d.kind with
  | none => .invalid .kind
  | some .signal => if d.signalOk then .valid else .invalid .signalField
  | some k =>
    if (k == .send && cfg.handshake == .none) || (k == .receive && !cfg.inboundEnabled) then .invalid .mode
    else if !(1 ≤ d.byteCount && d.byteCount ≤ Config.maxByteCount) then .invalid .count
    else if !d.formOk then .invalid .form
    else if !d.addressOk then .invalid .address
    else .valid

/-- An INLINE descriptor whose lengths do not add to its byte_count (R23). -/
def Descriptor.inlineSumWrong (d : Descriptor) : Bool :=
  (d.kind == some .send || d.kind == some .receive) && d.form == some .inline
    && (d.len0 + if d.segmentCount = 2 then d.len1 else 0) != d.byteCount

/-- The copy of a slot read with DATA (R8, R11). -/
def makeCopy (cfg : LinkConfig) (slot : Nat) (d : Descriptor) : Copy :=
  { slot := slot, desc := some d, verdict := d.check cfg,
    inlineMismatch := d.check cfg == .valid && d.inlineSumWrong, exec := .waiting, outcome := none,
    detail := .absent, bytesDone := none }

/-- The copy of a slot whose read failed (R9). -/
def unreadableCopy (slot : Nat) (f : MemFailure) : Copy :=
  { slot := slot, desc := none, verdict := .unreadable f, inlineMismatch := false, exec := .waiting, outcome := none,
    detail := .absent, bytesDone := none }

/-! ### Descriptor fetches (R6 to R9) -/

/-- The ring unit's link is RUNNING in a RUNNING part. -/
def State.linkRuns (s : State) (n : LinkId) : Bool := s.partState == .running && (s.link n).state == .running

/-- A descriptor fetch may be issued (R6). -/
def State.fetchWanted (s : State) (n : LinkId) : Bool :=
  let u := s.unit n
  s.linkRuns n && u.bound && !u.fetchOutstanding && u.fetchedCount < u.posted && u.fetchedCount < Config.windowSize
    && !u.window.any fun c => match c.verdict with | .unreadable _ => true | _ => false

/-- How many slots the next fetch reads (R7). -/
def RingUnit.fetchSlots (u : RingUnit) : Nat :=
  if u.fetched % 2 = 0 ∧ u.fetchedCount + 2 ≤ u.posted ∧ u.fetchedCount ≤ 2 then 2 else 1

/-- A re-read may be issued (R17). -/
def State.rereadWanted (s : State) (n : LinkId) : Bool :=
  s.linkRuns n && (s.unit n).bound && !(s.unit n).fetchOutstanding && (s.unit n).reread == .wanted

/-- The MEMORY event of a failed descriptor fetch (R9). -/
def State.fetchEvent (s : State) (n : LinkId) (slot : Nat) (f : MemFailure) : ErrorEvent :=
  { cls := .memory, code := readCode f, source := .ringUnit n, tag := none, address := some ((s.unit n).slotAddr slot),
    detail := none }

/-- No fetch is outstanding any more. -/
def State.fetchOver (s : State) (n : LinkId) : State := s.modUnit n fun u => { u with fetchOutstanding := false }

/-- A descriptor fetch ends with DATA (R8). -/
def State.fetchData (s : State) (n : LinkId) (slot count : Nat) (bytes : Vector Byte 64) : State :=
  let s := s.fetchOver n
  if s.partState = .running then
    let copies := (List.range count).map fun i =>
      makeCopy (s.link n).config (slot + i) (Descriptor.decode bytes (32 * i))
    (s.modUnit n fun u => { u with window := u.window ++ copies }).serveLink n
  else s

/-- A descriptor fetch fails (R9). -/
def State.fetchFailed (s : State) (n : LinkId) (slot : Nat) (f : MemFailure) : State :=
  let s := s.fetchOver n
  if s.partState = .running then
    let s := s.logEvent (s.fetchEvent n slot f)
    (s.modUnit n fun u =>
      if (s.link n).state = .quiescing then { u with fetched := slot }
      else { u with fetched := u.after slot, window := u.window ++ [unreadableCopy slot f] }).serveLink n
  else s

/-- The re-read of slot still concerns the front copy (R17). -/
def State.rereadTaken (s : State) (n : LinkId) (slot : Nat) : Bool :=
  s.partState == .running && (s.link n).state != .quiescing && (s.unit n).reread == .outstanding
    && match (s.unit n).window with
       | c :: _ => c.slot == slot && c.exec == .failed
       | [] => false

/-- A re-read ends with DATA: the copy is replaced and WAITING (R17). -/
def State.rereadData (s : State) (n : LinkId) (slot : Nat) (bytes : Vector Byte 64) : State :=
  let s' := s.fetchOver n
  if s.rereadTaken n slot then
    (s'.modUnit n fun u =>
      { u.modCopy slot fun _ => makeCopy (s.link n).config slot (Descriptor.decode bytes 0) with
        reread := .none }).serveLink n
  else s'.serveLink n

/-- A re-read fails: the copy is UNREADABLE and stays FAILED, DESC_FAILED counts again, and a RUNNING link holds
again (R17, R104, R147, R152). -/
def State.rereadFailed (s : State) (n : LinkId) (slot : Nat) (f : MemFailure) : State :=
  let s' := s.fetchOver n
  if s.rereadTaken n slot then
    let s' := s'.logEvent (s.fetchEvent n slot f)
    let s' := s'.modUnit n fun u => { u.modCopy slot fun _ => unreadableCopy slot f with reread := .none }
    if (s.link n).state = .running then (s'.failAndHold n slot (readCode f) .fetch (some 0) .linkSide).serveLink n
    else (s'.failCopy n slot (readCode f) .fetch (some 0)).serveLink n
  else s'.serveLink n

/-! ### Segment table reads (R26 to R30) -/

/-- A table read of a cursor is BUSY at the bus master, also one issued for a ring deleted since (R30, log 29). -/
def State.tableIssued (s : State) (n : LinkId) (k : CursorKind) : Bool :=
  s.readTags.any fun x => x.state == .busy && match x.route with
    | some (.table m j _ _) => m == n && j == k
    | _ => false

/-- The table read a cursor may issue: its first entry, how many entries, and its address (R26, R30). -/
def State.tableReadWanted (s : State) (n : LinkId) (k : CursorKind) : Option (Nat × Nat × Addr) :=
  let w := s.segWindow n k
  match s.cursor n k with
  | .inside slot _ _ =>
    match (s.unit n).descOf slot with
    | some d =>
      if s.linkRuns n && d.form == some .table && w.next < d.entryCount && w.mismatch.isNone
          && w.entries.length < Config.windowSize && w.read == .none && !s.tableIssued n k then
        let a := d.tableAddr + 16 * w.next
        some (w.next, min (min (d.entryCount - w.next) (Config.windowSize - w.entries.length)) ((64 - a % 64) / 16),
              BitVec.ofNat 48 a)
      else none
    | none => none
  | _ => none

/-- An entry of a segment table is placed and checked (R27). -/
def SegWindow.place (d : Descriptor) (w : SegWindow) (i : Nat) (entry : Nat × Nat) : SegWindow :=
  let (a, len) := entry
  if w.mismatch.isSome then w
  else if !segmentLengthOk len || !inReach a len || d.byteCount < w.sum + len then
    { w with mismatch := some (i, .segmentMismatch) }
  else
    let w' := { w with entries := w.entries ++ [{ index := i, addr := BitVec.ofNat 48 a, length := len }]
                       sum := w.sum + len }
    if i + 1 = d.entryCount ∧ w'.sum < d.byteCount then { w' with mismatch := some (d.entryCount, .segmentMismatch) }
    else if i + 1 ≠ d.entryCount ∧ w'.sum = d.byteCount then { w' with mismatch := some (i + 1, .segmentMismatch) }
    else w'

/-- The entries of a table read that ended with DATA, placed in index order (R27). -/
def SegWindow.placeAll (d : Descriptor) (first count : Nat) (bytes : Vector Byte 64) (w : SegWindow) : SegWindow :=
  (List.range count).foldl (fun w i => w.place d (first + i) (decodeEntry bytes (16 * i))) w

/-- The descriptor of the copy a cursor is in. -/
def State.cursorDesc (s : State) (n : LinkId) (k : CursorKind) : Option Descriptor :=
  match s.cursor n k with
  | .inside slot _ _ => (s.unit n).descOf slot
  | .atEnd slot => (s.unit n).descOf slot
  | .idle => none

/-- A table read ends with DATA (R27); one whose window has been emptied since is dropped (R30). -/
def State.tableData (s : State) (n : LinkId) (k : CursorKind) (first count : Nat) (bytes : Vector Byte 64) : State :=
  let s' := s.modSegWindow n k fun w => { w with read := .none }
  if s.partState = .running ∧ (s.segWindow n k).read = .live then
    match s.cursorDesc n k with
    | some d => (s'.modSegWindow n k (SegWindow.placeAll d first count bytes)).serveLink n
    | none => s'
  else s'

/-- A table read fails: the mismatch point is its first entry (R28); one whose window has been emptied since is
dropped without an event (R30). -/
def State.tableFailed (s : State) (n : LinkId) (k : CursorKind) (first : Nat) (a : Addr) (f : MemFailure) : State :=
  let s' := s.modSegWindow n k fun w => { w with read := .none }
  if s.partState = .running ∧ (s.segWindow n k).read = .live then
    ((s'.modSegWindow n k fun w => { w with next := first, mismatch := some (first, readCode f) }).logEvent
      { cls := .memory, code := readCode f, source := .ringUnit n, tag := none, address := some a,
        detail := none }).serveLink n
  else s'

/-! ### Starting copies (R24, R31 to R36) -/

/-- The outcome and detail of a copy that fails at the front (R24). -/
def Copy.frontFailure (c : Copy) : Code × Detail :=
  match c.verdict with
  | .invalid i => (.descriptorInvalid, .invalidCode i)
  | .unreadable f => (readCode f, .fetch)
  | .valid => (.segmentMismatch, .segment 0)

/-- A copy fails at the front (R24): an event of class DESCRIPTOR is logged, but for an UNREADABLE copy. -/
def State.failFront (s : State) (n : LinkId) (c : Copy) : State :=
  let (o, d) := c.frontFailure
  let s' := match c.verdict with
    | .unreadable _ => s
    | .invalid i =>
      s.logEvent (linkEvent n .descriptor o c (some ((s.unit n).slotAddr c.slot)) (some (BitVec.ofNat 32 i.value)))
    | .valid => s.logEvent (linkEvent n .descriptor o c (some ((s.unit n).slotAddr c.slot)) (some 0))
  s'.failAndHold n c.slot o d (some 0) .linkSide

/-- A turnaround starts before a copy (R32, R68). -/
def State.startTurn (s : State) (n : LinkId) (d : Direction) : State :=
  s.modLink n fun l => { l.turn d with sub := .turning }

/-- The oldest unstarted copy of link n starts, fails at the front or turns the link around, where the ordering rules
of section 2.6 allow it now. -/
def State.startCopy (s : State) (n : LinkId) : State :=
  let l := s.link n
  if s.linkRuns n && l.sub == .idle && l.turnTimer.isNone then
    match (s.unit n).nextCopy with
    | some (ahead, c) =>
      if c.bad then (if ahead.isEmpty then s.failFront n c else s)
      else
        match c.kind, l.dir with
        | some .send, .outbound => if aheadAllowsSend ahead then s.startSend n c else s
        | some .receive, .inbound => if ahead.isEmpty then s.startReceive n c else s
        | some .signal, _ => if ahead.isEmpty then s.startSignal n c else s
        | some .send, .inbound => if ahead.isEmpty && l.lines.isEmpty then s.startTurn n .outbound else s
        | some .receive, .outbound => if ahead.isEmpty && l.lines.isEmpty then s.startTurn n .inbound else s
        | none, _ => s
    | none => s
  else s

/-- A turnaround ends (R68, R69): the copy that caused it becomes CURRENT, unless the link has left RUNNING. -/
def State.endTurn (s : State) (n : LinkId) : State :=
  let s' := s.modLink n fun l => { l with turnTimer := none, sub := if l.sub = .turning then .idle else l.sub }
  if s.linkRuns n && (s.link n).sub == .turning then
    match (s.unit n).window with
    | c :: _ =>
      if c.good .send && c.unstarted then s'.startSend n c
      else if c.good .receive && c.unstarted then s'.startReceive n c
      else s'
    | [] => s'
  else s'

end Sys2Proof.Machine
end

