-- ==== Sys2Proof/Machine/Commands.lean ====
section
/-! DEFINITION. The ten commands of the control ring (section 9), each as it acts in the event in which it is taken,
and the ends of the writes of READ COUNTERS and READ ERROR LOG. -/

namespace Sys2Proof.Machine

/-! ### Status rings -/

/-- The first check of CREATE STATUS RING that fails (R168). -/
def State.createStatusRingRefusal (s : State) (n : LinkId) (c : Vector Byte 32) : Option Code :=
  if (s.ring (.s n)).state ≠ .absent then some .refusedState
  else if !powerOfTwoIn 16 1024 (leField c 4 2) then some .refusedRange
  else if !ringBaseOk (leField c 8 8) (leField c 4 2) 16 then some .refusedRange
  else if !messageAddrOk (leField c 16 8) then some .refusedRange
  else if leField c 6 1 < 1 || 32 < leField c 6 1 then some .refusedRange
  else none

/-- CREATE STATUS RING for ring Sn (R124, R168). -/
def State.createStatusRing (s : State) (n : LinkId) (c : Vector Byte 32) : State :=
  match s.createStatusRingRefusal n c with
  | some o => s.endCommand o
  | none =>
    (s.modRing (.s n) fun _ =>
      StatusRing.create (leField c 8 8) (leField c 4 2) (leField c 16 8) (leField c 24 4) (leField c 6 1)
        (leField c 7 1)).endCommand .ok

/-- The first check of DELETE STATUS RING that fails (R169). -/
def State.deleteStatusRingRefusal (s : State) (n : LinkId) : Option Code :=
  if (s.ring (.s n)).state = .absent then some .refusedState
  else if allLinks.any fun m => (s.unit m).bound && (s.unit m).statusRing == some n then some .refusedInUse
  else none

/-- DELETE STATUS RING for ring Sn (R124, R169). -/
def State.deleteStatusRing (s : State) (n : LinkId) : State :=
  match s.deleteStatusRingRefusal n with
  | some o => s.endCommand o
  | none => (s.deleteRing n).endCommand .ok

/-! ### CONFIGURE LINK (R170, R171) -/

/-- The fields that a CONFIGURE LINK taken in HELD must leave as they are. -/
def keepsModes (l : Link) (c : Vector Byte 32) : Bool :=
  match cmdLinkModes c with
  | some m => cmdConfig c m == withTiming l.config c
  | none => false

/-- The timing checks of R171. -/
def timingOk (c : Vector Byte 32) : Bool := 1 ≤ leField c 6 1 && 1 ≤ leField c 7 1 && 1 ≤ leField c 9 1

/-- The range checks of R171 in UNCONFIGURED and STOPPED. -/
def configOk (c : Vector Byte 32) (m : Handshake × Bool × Bool × Bool) : Bool :=
  let cfg := cmdConfig c m
  !(cfg.handshake == .none && !cfg.inboundEnabled) && timingOk c && 1 ≤ cfg.ceiling && cfg.ceiling ≤ 16
    && cfg.reserve ≤ 4 && 1 ≤ cfg.depth && cfg.depth ≤ 8 && cfg.depth ≤ cfg.ceiling

/-- CONFIGURE LINK for link n. -/
def State.configureLink (s : State) (n : LinkId) (c : Vector Byte 32) : State :=
  let l := s.link n
  match l.state with
  | .running | .holding | .quiescing => s.endCommand .refusedState
  | .held =>
    if !keepsModes l c then s.endCommand .refusedState
    else if !timingOk c then s.endCommand .refusedRange
    else (s.modLink n fun l => { l with config := withTiming l.config c }).endCommand .ok
  | .unconfigured | .stopped =>
    match cmdLinkModes c with
    | none => s.endCommand .refusedRange
    | some m =>
      let cfg := cmdConfig c m
      if !configOk c m then s.endCommand .refusedRange
      else if l.config.reserve < cfg.reserve && !s.reserveFits n cfg.reserve then
        s.endCommand .resourcesUnavailable
      else (s.modLink n (Link.stopped · cfg)).endCommand .ok

/-! ### Transfer rings -/

/-- The first check of CREATE TRANSFER RING that fails (R172). -/
def State.createTransferRingRefusal (s : State) (n : LinkId) (c : Vector Byte 32) : Option Code :=
  if (s.link n).state ≠ .stopped then some .refusedState
  else if !powerOfTwoIn 8 1024 (leField c 4 2) then some .refusedRange
  else if !ringBaseOk (leField c 8 8) (leField c 4 2) 32 then some .refusedRange
  else if h : leField c 6 1 < 4 then
    if (s.ring (.s ⟨leField c 6 1, h⟩)).state ≠ .active then some .refusedInUse else none
  else some .refusedRange

/-- Ring unit Tn bound by CREATE TRANSFER RING (R3). -/
def boundUnit (c : Vector Byte 32) : RingUnit :=
  { RingUnit.reset with
    bound := true, base := BitVec.ofNat 48 (leField c 8 8), size := leField c 4 2,
    statusRing := some (Fin.ofNat 4 (leField c 6 1)) }

/-- CREATE TRANSFER RING for link n (R3, R80, R172). -/
def State.createTransferRing (s : State) (n : LinkId) (c : Vector Byte 32) : State :=
  match s.createTransferRingRefusal n c with
  | some o => s.endCommand o
  | none =>
    (((s.modUnit n fun _ => boundUnit c).modLink n Link.running).offerAttention n).endCommand .ok

/-- DELETE TRANSFER RING for link n (R173). -/
def State.deleteTransferRing (s : State) (n : LinkId) : State :=
  match (s.link n).state with
  | .running | .held => (s.enterQuiescing n .delete).serveLink n
  | _ => s.endCommand .refusedState

/-! ### RESUME LINK and ABORT LINK -/

/-- RETRY (R151, R152): after an error the held slot is to be read again. -/
def State.resumeRetry (s : State) (n : LinkId) : State :=
  let s' := if (s.link n).heldCopy.isSome then s.modUnit n fun u => { u with reread := .wanted } else s
  ((s'.modLink n Link.running).endCommand .ok).serveLink n

/-- SKIP (R151, R153): after an error the held copy retires without a record. -/
def State.resumeSkip (s : State) (n : LinkId) : State :=
  let s' := if (s.link n).heldCopy.isSome then s.retireFront n else s
  ((s'.modLink n Link.running).endCommand .ok).serveLink n

/-- FLUSH (R154): after an error the held copy retires without a second record, and the ring is emptied. The held copy
item becomes absent as the command is taken (DESIGN CHOICE, log 35). -/
def State.resumeFlush (s : State) (n : LinkId) : State :=
  let s' := if (s.link n).heldCopy.isSome then s.retireFront n else s
  (s'.modLink n fun l => { l with cancellation := .flush, heldCopy := none }).serveLink n

/-- RESUME LINK for link n (R174). -/
def State.resumeLink (s : State) (n : LinkId) (c : Vector Byte 32) : State :=
  let l := s.link n
  if l.state ≠ .held then s.endCommand .refusedState
  else if l.holdCause = some .statusLost then s.endCommand .refusedState
  else
    match cmdResume c with
    | none => s.endCommand .refusedRange
    | some .retry => s.resumeRetry n
    | some .skip => s.resumeSkip n
    | some .flush => s.resumeFlush n

/-- ABORT LINK for link n (R175). -/
def State.abortLink (s : State) (n : LinkId) : State :=
  match (s.link n).state with
  | .unconfigured => s.endCommand .refusedState
  | .stopped => s.endCommand .ok
  | _ => (s.enterQuiescing n .abort).serveLink n

/-! ### SET LINES -/

/-- SET LINES for link n (R84, R176). -/
def State.setLinesCommand (s : State) (n : LinkId) (c : Vector Byte 32) : State :=
  if (s.link n).state = .unconfigured then s.endCommand .refusedState
  else
    match levelDecode (leField c 4 1), levelDecode (leField c 5 1) with
    | some c0, some c1 => ((s.setLevels n c0 c1).endCommand .ok).serveLink n
    | _, _ => s.endCommand .refusedRange

/-! ### READ COUNTERS (R177, R178) -/

/-- The six counters of a link, in the block's order. -/
def Link.counters (l : Link) : List Word :=
  [l.bytesOut, l.bytesIn, l.descOk, l.descFailed, l.linkTimeouts, l.linesDiscarded]

/-- The 26 counters, in the order of section 11.6.7. -/
def State.counters (s : State) : Vector Word 26 :=
  Vector.ofFn fun i : Fin 26 =>
    if i.val < 24 then ((s.link (Fin.ofNat 4 (i.val / 6))).counters[i.val % 6]?).getD 0
    else if i.val = 24 then s.lateResponses else s.recordsDiscarded

/-- The buffer address of commands 9 and 10 is valid for a block of len bytes. -/
def bufferOk (c : Vector Byte 32) (len : Nat) : Bool := leField c 8 8 % 64 == 0 && inReach (leField c 8 8) len

/-- The clear option of commands 9 and 10. -/
def clearOption (c : Vector Byte 32) : Bool := bitOf (leField c 4 1) 0

/-- READ COUNTERS: the counters are captured and the first write is offered. -/
def State.readCounters (s : State) (c : Vector Byte 32) : State :=
  if bufferOk c 128 then
    s.modControl fun x => { x with capture := .counters s.counters, write0 := .offered, write1 := .idle,
                                   failure := none }
  else s.endCommand .refusedRange

/-- What the clear takes from link n's counters: the captured values (R178). -/
def Link.clearCounters (l : Link) (v : Vector Word 26) (n : Nat) : Link :=
  let at' (k : Nat) : Word := v[6 * n + k]?.getD 0
  { l with bytesOut := l.bytesOut - at' 0, bytesIn := l.bytesIn - at' 1, descOk := l.descOk - at' 2,
           descFailed := l.descFailed - at' 3, linkTimeouts := l.linkTimeouts - at' 4,
           linesDiscarded := l.linesDiscarded - at' 5 }

/-- The clear of READ COUNTERS subtracts the captured values (R178). -/
def State.clearCounters (s : State) (v : Vector Word 26) : State :=
  let s := forEach (fun s n => s.modLink n fun l => l.clearCounters v n) allLinks s
  { s with lateResponses := s.lateResponses - v[24], recordsDiscarded := s.recordsDiscarded - v[25] }

/-- A command of the control processor still runs and waits for its writes. -/
def State.commandRuns (s : State) : Bool := s.partState == .running && s.control.state == .executing

/-- The error event of a failed write of commands 9 and 10 (R177, R179). -/
def controlWriteEvent (o : Code) (a : Addr) : ErrorEvent :=
  { cls := .memory, code := o, source := .control, tag := none, address := some a, detail := none }

/-- The first write to fail gives the command its outcome (R177). -/
def Control.noteFailure (x : Control) (o : Code) : Control := { x with failure := x.failure <|> some o }

/-- READ COUNTERS ends in the event in which its second write to end has ended (R177, R178). -/
def State.finishCounters (s : State) : State :=
  if s.control.write0 = .ended ∧ s.control.write1 = .ended then
    match s.control.failure, s.control.capture, s.control.current with
    | some o, _, _ => s.endCommand o
    | none, .counters v, some c => (if clearOption c then s.clearCounters v else s).endCommand .ok
    | none, _, _ => s.endCommand .ok
  else s

/-- A counter block write ends (R177). -/
def State.counterWriteEnded (s : State) (second : Bool) (a : Addr) (failed : Option Code) : State :=
  if s.commandRuns then
    let s := s.modControl fun x => if second then { x with write1 := .ended } else { x with write0 := .ended }
    let s := match failed with
      | some o => (s.modControl (Control.noteFailure · o)).logEvent (controlWriteEvent o a)
      | none => s
    s.finishCounters
  else s

/-! ### READ ERROR LOG (R160, R179) -/

/-- READ ERROR LOG: the log is captured, its event-since-capture flag cleared, and the write offered. -/
def State.readErrorLog (s : State) (c : Vector Byte 32) : State :=
  if bufferOk c 32 then
    { s.modControl fun x => { x with capture := .log s.errorLog, write0 := .offered, failure := none } with
      errorLog := { s.errorLog with sinceCapture := false } }
  else s.endCommand .refusedRange

/-- The error log write ends (R160, R179). -/
def State.logWriteEnded (s : State) (a : Addr) (failed : Option Code) : State :=
  if s.commandRuns then
    match failed, s.control.current with
    | some o, _ => (s.logEvent (controlWriteEvent o a)).endCommand o
    | none, some c =>
      (if clearOption c && !s.errorLog.sinceCapture then { s with errorLog := s.errorLog.clear } else s).endCommand .ok
    | none, none => s
  else s

/-! ### Taking a command (R165) -/

/-- A command with a target: a target that is not 0 to 3 refuses it (check 2 of R165). -/
def State.withTarget (s : State) (c : Vector Byte 32) (f : LinkId → State) : State :=
  match cmdTarget c with
  | some n => f n
  | none => s.endCommand .refusedRange

/-- The command in the current copy is taken (R165). -/
def State.takeCommand (s : State) (c : Vector Byte 32) : State :=
  match cmdCode c with
  | 1 => s.withTarget c fun n => s.createStatusRing n c
  | 2 => s.withTarget c fun n => s.deleteStatusRing n
  | 3 => s.withTarget c fun n => s.configureLink n c
  | 4 => s.withTarget c fun n => s.createTransferRing n c
  | 5 => s.withTarget c fun n => s.deleteTransferRing n
  | 6 => s.withTarget c fun n => s.resumeLink n c
  | 7 => s.withTarget c fun n => s.abortLink n
  | 8 => s.withTarget c fun n => s.setLinesCommand n c
  | 9 => s.readCounters c
  | 10 => s.readErrorLog c
  | _ => s.endCommand .unknownCommand

end Sys2Proof.Machine
end

