-- ==== Sys2Proof/Machine/Reset.lean ====
section
/-! DEFINITION. Halt and reset (sections 11.3 to 11.5): how every block winds down, the settle wait and its end, and
hardware reset. -/

namespace Sys2Proof.Machine

/-! ### Winding down (R61, R85, R103, R121, R139, R161, R192, R198) -/

/-- A link engine stops after its byte has been stopped (R85, R103, R121): a turnaround, a pulse and a wait end at once,
its cursors become idle, its offers are dropped, and CTL0 and CTL1 go low unless a strobe runs on. The link keeps its
state (R65), and its sub-activity and present direction stand as they were, also where a turnaround ends (log 33). -/
def Link.halt (l : Link) : Link :=
  { l with
    handshakeTimer := none, turnTimer := none, restore0 := none, restore1 := none, pulseTimer := none, wait := none,
    limitTimer := none, fillCursor := .idle, storeCursor := .idle, offers := [],
    ctl0 := l.phase == .strobe && l.ctl0, ctl1 := l.phase == .strobe && l.ctl1 }

/-- A ring unit's segment windows are emptied (R30); no copy changes (R103). -/
def RingUnit.halt (u : RingUnit) : RingUnit :=
  { u with fillWindow := u.fillWindow.emptied, storeWindow := u.storeWindow.emptied }

/-- Every block drops its work, on entry to HALTED and to RESETTING (R198, R199). -/
def State.windDown (s : State) : State :=
  let s := forEach State.stopByte allLinks s
  let s := forEach State.haltLine allLines s
  { s with
    startRead := none
    links := s.links.map Link.halt
    units := s.units.map RingUnit.halt
    sc := { s.sc with modTimer := none }
    sRings := s.sRings.map fun x => { x with modTimer := none }
    control := { s.control with resultOffer := none }
    notices := [] }

/-- The part enters HALTED with a halt cause (R198). -/
def State.enterHalted (s : State) (cause : HaltCause) : State :=
  { s.windDown with partState := .halted, haltCause := cause }

/-- An error event of class FATAL (R131, R164, R197). -/
def fatalEvent (code : Code) (source : LogSource) (a : Addr) (detail : Option Word) : ErrorEvent :=
  { cls := .fatal, code := code, source := source, tag := none, address := some a, detail := detail }

/-- A halt cause is taken: the part enters HALTED and its FATAL event reaches the log, without a notice (R131, R164,
R197). -/
def State.haltWith (s : State) (cause : HaltCause) (e : ErrorEvent) : State := (s.enterHalted cause).logEvent e

/-! ### Soft reset (R199) -/

/-- A read tag or a write slot is BUSY. -/
def State.anyBusy (s : State) : Bool :=
  s.readTags.any (·.state == .busy) || s.writeSlots.any (·.state == .busy)

/-- A tag or slot at the return to DORMANT: one still BUSY becomes STALE (R192). -/
def Ident.settle (x : Ident) : Ident :=
  match x.state with
  | .free => Ident.reset
  | .stale => x
  | .busy => { x with state := .stale, route := none, timer := none, data := [] }

/-- The items that a return to DORMANT gives their reset values, and those it keeps (R62, R199). -/
def State.settled (s : State) : State :=
  { State.reset with
    startAddr := s.startAddr, pins := s.pins, lines := s.lines.map fun x => Line.freeWith x.data,
    errorLog := s.errorLog, readTags := s.readTags.map Ident.settle, writeSlots := s.writeSlots.map Ident.settle,
    readExhausted := s.readExhausted, writeExhausted := s.writeExhausted, openValues := s.openValues,
    pending := s.pending }

/-- The settle wait ends: the part enters DORMANT (R199). Identifiers that have just become STALE may complete an
exhaustion (R187, log 17), and where they complete both, either may be logged first (R159, log 7). -/
def State.endSettle (s : State) : State :=
  let t := s.settled
  if t.exhausts .read && t.exhausts .write then
    inEitherOrder (State.noteExhaustion .read) (State.noteExhaustion .write) t
  else (t.noteExhaustion .read).noteExhaustion .write

/-- The settle wait ends in the first event in which nothing is BUSY (R199). -/
def State.checkSettle (s : State) : State :=
  if s.partState = .resetting && !s.anyBusy then s.endSettle else s

/-- The part enters RESETTING (R195, R199). -/
def State.enterResetting (s : State) : State :=
  if s.partState = .resetting then s
  else
    State.checkSettle
      { s.windDown with partState := .resetting, haltCause := .none, settleTimer := some Config.settleLimit }

/-- The settle wait's limit runs out (R199). -/
def State.settleExpired (s : State) : State := if s.partState = .resetting then s.endSettle else s

/-! ### Hardware reset (R200) -/

/-- RESET# is asserted: every item takes its hardware reset value. The lines' data bytes are open values (R62). -/
def State.hardwareReset (s : State) : State :=
  { State.reset with
    resetHeld := true, pins := s.pins,
    lines := Vector.ofFn fun i => Line.freeWith (Config.undefinedLineData s.openValues i),
    openValues := s.openValues + 1, pending := s.pending }

/-- RESET# is released (R200). -/
def State.releaseReset (s : State) : State := { s with resetHeld := false }

end Sys2Proof.Machine
end

