-- ==== Sys2Proof/Machine/Bus.lean ====
section
/-! DEFINITION. The system bus master (section 10): the requests that wait, the class arbiter, issue, and the routing
of ends. A waiting request is not stored: it stands exactly while the conditions of its rule hold, so withdrawing one
needs no act. -/

namespace Sys2Proof.Machine

/-! ### Waiting requests (R180, R190) -/

/-- A request as its requester presents it (R180). A read carries no data. -/
structure Request where
  address : Addr
  length : Nat
  route : Route
  data : List Byte
deriving DecidableEq, Repr

/-- A request whose route fits has been issued and has not ended. -/
def State.issued (s : State) (k : BusKind) (r : Route) : Bool :=
  (s.idents k).any fun x => x.state == .busy && x.route == some r

/-- The start record read (R197), presented in the control processor's place, or its command fetch (R163). -/
def State.controlRead (s : State) : Option Request :=
  match s.partState, s.startRead with
  | .starting, some a =>
    if s.issued .read .startRecord then none
    else some { address := a, length := 64, route := .startRecord, data := [] }
  | .running, _ =>
    if s.control.state == .fetching && !s.issued .read .command then
      some { address := s.control.slotAddr s.control.slot, length := 32, route := .command, data := [] }
    else none
  | _, _ => none

/-- The buffer address of the command in EXECUTING (R177, R179). -/
def Control.buffer (c : Control) : Addr :=
  BitVec.ofNat 48 ((c.current.map fun v => leField v 8 8).getD 0)

/-- The counter block writes and the error log write (R177, R179). -/
def State.controlWrite (s : State) : Option Request :=
  let c := s.control
  if !s.commandRuns then none
  else
    match c.capture with
    | .counters v =>
      if c.write0 == .offered then
        some { address := c.buffer, length := 64, route := .counters false, data := (counterBlock v).take 64 }
      else if c.write1 == .offered then
        some { address := c.buffer + 64, length := 64, route := .counters true, data := (counterBlock v).drop 64 }
      else none
    | .log l =>
      if c.write0 == .offered then some { address := c.buffer, length := 32, route := .log, data := l.bytes } else none
    | .none => none

/-- A status ring writer's request: its due message, or its oldest pending record (R129, R136, R190). -/
def State.ringWrite (s : State) (r : RingId) : Option Request :=
  let x := s.ring r
  if s.partState != .running then none
  else if x.messageReady then
    some { address := x.msgAddr, length := 4, route := .message r true, data := leBytes 4 x.msgData.toNat }
  else if x.writeReady then
    match x.pending with
    | rec :: _ =>
      some { address := x.slotAddr x.tail, length := 16, route := .status r x.tail true, data := rec.bytes x.phase }
    | [] => none
  else none

/-- A table read of a cursor (R26). -/
def State.tableRequest (s : State) (n : LinkId) (k : CursorKind) : Option Request :=
  (s.tableReadWanted n k).map fun p =>
    { address := p.2.2, length := 16 * p.2.1, route := .table n k p.1 p.2.1, data := [] }

/-- A re-read, or a descriptor fetch (R6, R7, R17). -/
def State.fetchRequest (s : State) (n : LinkId) : Option Request :=
  let u := s.unit n
  if s.rereadWanted n then
    some { address := u.slotAddr u.head, length := 32, route := .reread n u.head, data := [] }
  else if s.fetchWanted n then
    some { address := u.slotAddr u.fetched, length := 32 * u.fetchSlots, route := .descriptor n u.fetched u.fetchSlots,
           data := [] }
  else none

/-- A ring unit's read: a table read before a descriptor fetch (R26, R190). -/
def State.unitRead (s : State) (n : LinkId) : Option Request :=
  s.tableRequest n .fill <|> s.tableRequest n .store <|> s.fetchRequest n

/-- How many tags or slots are BUSY with fills or stores (R188). -/
def State.busyC (s : State) (k : BusKind) : Nat :=
  ((s.idents k).filter fun x => x.state == .busy && x.cls == some .c).length

/-- An outbound link's oldest waiting fill (R41, R190). -/
def State.fillRequest (s : State) (n : LinkId) : Option Request :=
  if s.partState == .running && s.busyC .read < Config.classCLimit then
    ((s.link n).lines.find? fun i => (s.line i).state == .filling && !s.fillIssued i).map fun i =>
      { address := (s.line i).address, length := (s.line i).length, route := .fill i, data := [] }
  else none

/-- The link engine offers stores: in RUNNING, HOLDING and QUIESCING (R113). -/
def State.offersStores (s : State) (n : LinkId) : Bool :=
  s.partState == .running
    && ((s.link n).state == .running || (s.link n).state == .holding || (s.link n).state == .quiescing)

/-- An inbound link's store for its oldest SEALED line (R113, R190). -/
def State.storeRequest (s : State) (n : LinkId) : Option Request :=
  if s.offersStores n && s.busyC .write < Config.classCLimit then
    ((s.link n).lines.find? fun i => (s.line i).state == .sealed).map fun i =>
      { address := (s.line i).address, length := (s.line i).length, route := .store i,
        data := (s.line i).data.toList.take (s.line i).length }
  else none

/-- The request that a member of the group presents in class A. -/
def State.memberRequest (s : State) : BusKind → Member → Option Request
  | .read, .control => s.controlRead
  | .read, .ring _ => none
  | .write, .control => s.controlWrite
  | .write, .ring r => s.ringWrite r

/-- The request that a link's position presents in a class. -/
def State.linkRequest (s : State) : BusKind → ReqClass → LinkId → Option Request
  | .read, .b, n => s.unitRead n
  | .read, .c, n => s.fillRequest n
  | .write, .c, n => s.storeRequest n
  | _, _, _ => none

/-! ### The class arbiter (R188, R189) -/

/-- A list visited from the element after x on, wrapping, x last. -/
def visitAfter {α : Type} [DecidableEq α] (l : List α) (x : α) : List α :=
  (l.dropWhile (· ≠ x)).tail ++ l.takeWhile (· ≠ x) ++ [x]

/-- The members of the group in their order. -/
def members : List Member := [.control, .ring .sc, .ring (.s 0), .ring (.s 1), .ring (.s 2), .ring (.s 3)]

def Pointers.member (p : Pointers) : BusKind → Member
  | .read => p.memberRead
  | .write => p.memberWrite

/-- The class pointer; class B writes do not exist and have none. -/
def Pointers.ofClass (p : Pointers) : BusKind → ReqClass → Requester
  | .read, .a => p.aRead
  | .write, .a => p.aWrite
  | .read, .b => p.bRead
  | .write, .b => .group
  | .read, .c => p.cRead
  | .write, .c => p.cWrite

/-- Class A: the member that is granted, with its request (R189). -/
def State.nextMember (s : State) (k : BusKind) : Option (Member × Request) :=
  (visitAfter members (s.pointers.member k)).findSome? fun m => (s.memberRequest k m).map (m, ·)

/-- Classes B and C: the link that is granted, with its request (R189). The group presents nothing there. -/
def State.nextLink (s : State) (k : BusKind) (cls : ReqClass) : Option (LinkId × Request) :=
  (visitAfter ((allLinks.map Requester.link) ++ [.group]) (s.pointers.ofClass k cls)).findSome? fun q =>
    match q with
    | .link n => (s.linkRequest k cls n).map (n, ·)
    | .group => none

/-- What the arbiter decides: a class, the requester granted in it, the member within the group, and the request. -/
structure Choice where
  cls : ReqClass
  requester : Requester
  member : Option Member
  request : Request
deriving DecidableEq, Repr

/-- The request that is granted next, strictly by class (R188). -/
def State.nextRequest (s : State) (k : BusKind) : Option Choice :=
  match s.nextMember k with
  | some (m, q) => some { cls := .a, requester := .group, member := some m, request := q }
  | none =>
    match s.nextLink k .b with
    | some (n, q) => some { cls := .b, requester := .link n, member := none, request := q }
    | none => (s.nextLink k .c).map fun p => { cls := .c, requester := .link p.1, member := none, request := p.2 }

/-- The lowest-numbered FREE tag or slot (R183). -/
def State.lowestFree (s : State) (k : BusKind) : Option BusNo :=
  allBusNos.find? fun t => (s.ident k t).state == .free

/-- The pointers after a grant. -/
def Pointers.granted (p : Pointers) (k : BusKind) (c : Choice) : Pointers :=
  match k, c.cls with
  | .read, .a => { p with aRead := c.requester, memberRead := c.member.getD p.memberRead }
  | .write, .a => { p with aWrite := c.requester, memberWrite := c.member.getD p.memberWrite }
  | .read, .b => { p with bRead := c.requester }
  | .write, .b => p
  | .read, .c => { p with cRead := c.requester }
  | .write, .c => { p with cWrite := c.requester }

/-! ### Issue (R183) -/

/-- The requester's own acts in the event of the issue. A status write that leaves a pending list lets one waiting
offer in (R128). -/
def State.noteIssue (s : State) : Route → State
  | .startRecord => s
  | .command => s
  | .descriptor n _ count =>
    s.modUnit n fun u => { u with fetched := (u.fetched + count) % u.size, fetchOutstanding := true }
  | .reread n _ => s.modUnit n fun u => { u with reread := .outstanding, fetchOutstanding := true }
  | .table n k _ count => s.modSegWindow n k fun w => { w with next := w.next + count, read := .live }
  | .fill _ => s
  | .status r _ _ => (s.modRing r StatusRing.issueWrite).acceptOne r
  | .message r _ => s.modRing r StatusRing.issueMessage
  | .counters second =>
    s.modControl fun c => if second then { c with write1 := .issued } else { c with write0 := .issued, write1 := .offered }
  | .log => s.modControl fun c => { c with write0 := .issued }
  | .store i => s.modLine i fun x => { x with state := .storing }

/-- The tag or slot holds the request, BUSY, with its response timer running (R182, R183). -/
def Choice.hold (c : Choice) : Ident :=
  { state := .busy, cls := some c.cls, address := c.request.address, length := c.request.length,
    route := some c.request.route, timer := some Config.responseLimit, data := c.request.data }

/-- A request is issued on a tag or slot (R183). -/
def State.issue (s : State) (k : BusKind) (t : BusNo) (c : Choice) : State :=
  ({ s.modIdent k t fun _ => c.hold with pointers := s.pointers.granted k c }).noteIssue c.request.route

/-- The class arbiter grants, and acts again after each grant, while a FREE tag or slot and a request that may be issued
remain, for at most so many grants: each goes to the lowest FREE one (R183, R188). -/
def State.issueUpTo (k : BusKind) : Nat → State → State
  | 0, s => s
  | m + 1, s =>
    match s.lowestFree k, s.nextRequest k with
    | some t, some c => State.issueUpTo k m (s.issue k t c)
    | _, _ => s

/-- All that the class arbiter grants in one event: there are eight tags, and eight slots. -/
def State.issueAll (s : State) (k : BusKind) : State := State.issueUpTo k 8 s

/-! ### Ends at the requesters (R191) -/

/-- The way a write failed, where it failed. -/
def writeFailure : WriteEnd → Option MemFailure
  | .done => none
  | .error => some .error
  | .timeout => some .timeout

/-- The end of a read that failed. -/
def failedRead : MemFailure → ReadEnd
  | .error => .error
  | .timeout => .timeout

/-- The end of a write that failed. -/
def failedWrite : MemFailure → WriteEnd
  | .error => .error
  | .timeout => .timeout

/-- The part enters RUNNING from the start record: the control ring and SC are set up (R161, R124, R197). -/
def State.enterRunning (s : State) (r : StartRecord) : State :=
  { s with
    partState := .running
    startRead := none
    control := { Control.reset with base := BitVec.ofNat 48 r.controlBase, size := r.controlSize }
    sc := StatusRing.create r.scBase r.scSize r.msgAddr r.msgData r.modCount r.modDelay }

/-- The start record read of address a ends (R197). -/
def State.startReadEnded (s : State) (a : Addr) (e : ReadEnd) : State :=
  if s.partState = .starting then
    match e with
    | .data v =>
      match (StartRecord.decode v).firstInvalid with
      | some off =>
        s.haltWith .startInvalid (fatalEvent .startInvalid .register a (some (BitVec.ofNat 32 off)))
      | none => s.enterRunning (StartRecord.decode v)
    | .error | .timeout => s.haltWith .startReadFailed (fatalEvent .startReadFailed .register a none)
  else s

/-- The control processor waits for the end of a command fetch. -/
def State.awaitsCommand (s : State) : Bool := s.partState == .running && s.control.state == .fetching

/-- A command record has been read: it becomes the current command copy, in EXECUTING (R163). -/
def State.holdCommand (s : State) (c : Vector Byte 32) : State :=
  s.modControl fun x => { x with state := .executing, current := some c }

/-- A command fetch of address a fails (R164). -/
def State.commandFailed (s : State) (a : Addr) : State :=
  if s.awaitsCommand then s.haltWith .controlFetchFailed (fatalEvent .controlFetchFailed .control a none) else s

/-- A command fetch of address a ends (R163, R164). -/
def State.commandEnded (s : State) (a : Addr) (e : ReadEnd) : State :=
  match e with
  | .data v =>
    if s.awaitsCommand then
      let c : Vector Byte 32 := Vector.ofFn fun i => v[i]
      (s.holdCommand c).takeCommand c
    else s
  | .error | .timeout => s.commandFailed a

/-- The bytes of a fill in a line's storage: the first ones of the line, as many as its length (R42). -/
def Line.fillWith (x : Line) (v : Vector Byte 64) : Line :=
  { x with state := .ready, data := Vector.ofFn fun i => if i.val < x.length then v[i] else x.data[i] }

/-- The fill of line i ends (R42, R43, R61). -/
def State.fillEnded (s : State) (i : LineId) (e : ReadEnd) : State :=
  let x := s.line i
  match x.owner with
  | some n =>
    match x.state, e with
    | .filling, .data v => (s.modLine i fun x => x.fillWith v).serveLink n
    | .filling, .error => (s.modLine i fun x => { x with state := .failed, error := some .memoryReadError }).serveLink n
    | .filling, .timeout => (s.modLine i fun x => { x with state := .failed, error := some .memoryTimeout }).serveLink n
    | .discardPending, _ => if s.partState = .running then (s.freeCounted n i).serveLink n else s.freeLine i
    | _, _ => s
  | none => s

/-- The store of line i ends (R50, R61, R114, R118). -/
def State.storeEnded (s : State) (i : LineId) (f : Option MemFailure) : State :=
  let x := s.line i
  match x.owner with
  | some n =>
    if x.state = .storing then
      if s.partState = .running then
        match f with
        | none => (s.storedLine n i).serveLink n
        | some f => (s.storeFailed n i (writeCode f)).serveLink n
      else s.freeLine i
    else s
  | none => s

/-- The status write of a ring's slot ends (R130 to R132, R139). SC keeps the slot of a write that failed as its write
outstanding through HALTED (log 30). -/
def State.statusEnded (s : State) (r : RingId) (slot : Nat) (f : Option MemFailure) : State :=
  if s.partState = .running then
    match f, r with
    | none, r => s.modRing r StatusRing.writeDone
    | some _, .sc =>
      s.haltWith .statusWriteFailed (fatalEvent .statusWriteFailed (.ring .sc) (s.sc.slotAddr slot) none)
    | some f, .s n => s.failRing n slot (writeCode f)
  else s

/-- The error event of a failed message write (R138). -/
def messageEvent (r : RingId) (a : Addr) : ErrorEvent :=
  { cls := .message, code := .messageWriteFailed, source := .ring r, tag := none, address := some a, detail := none }

/-- The message write of a ring ends (R138, R139). -/
def State.messageEnded (s : State) (r : RingId) (a : Addr) (f : Option MemFailure) : State :=
  if s.partState = .running then
    let s := s.modRing r fun x => { x with msgOutstanding := false }
    match f with
    | none => s
    | some _ => s.logEvent (messageEvent r a)
  else s

/-- The end of a read of address a is handed to its route (R191). -/
def State.routeRead (s : State) (a : Addr) (e : ReadEnd) : Route → State
  | .startRecord => s.startReadEnded a e
  | .command => s.commandEnded a e
  | .descriptor n slot count =>
    match e with
    | .data v => s.fetchData n slot count v
    | .error => s.fetchFailed n slot .error
    | .timeout => s.fetchFailed n slot .timeout
  | .reread n slot =>
    match e with
    | .data v => s.rereadData n slot v
    | .error => s.rereadFailed n slot .error
    | .timeout => s.rereadFailed n slot .timeout
  | .table n k first count =>
    match e with
    | .data v => s.tableData n k first count v
    | .error => s.tableFailed n k first a .error
    | .timeout => s.tableFailed n k first a .timeout
  | .fill i => s.fillEnded i e
  | .status .. | .message .. | .counters _ | .log | .store _ => s

/-- The end of a write of address a is handed to its route (R191); a write of a ring deleted since reaches no ring
(R124). -/
def State.routeWrite (s : State) (a : Addr) (f : Option MemFailure) : Route → State
  | .status r slot live => if live then s.statusEnded r slot f else s
  | .message r live => if live then s.messageEnded r a f else s
  | .counters second => s.counterWriteEnded second a (f.map writeCode)
  | .log => s.logWriteEnded a (f.map writeCode)
  | .store i => s.storeEnded i f
  | .startRecord | .command | .descriptor .. | .reread .. | .table .. | .fill _ => s

/-- MEMORY_TIMEOUT handed to the route that an identifier held (R185, R191). -/
def State.routeTimeout (k : BusKind) (x : Ident) (s : State) : State :=
  match k, x.route with
  | .read, some r => s.routeRead x.address .timeout r
  | .write, some r => s.routeWrite x.address (some .timeout) r
  | _, none => s

/-! ### Ends, timeouts and late responses at the bus master (R184 to R187) -/

/-- The tag or slot is FREE again; it keeps the class that last held it (R182). -/
def Ident.release (x : Ident) : Ident := { Ident.reset with cls := x.cls }

/-- The tag or slot is STALE (R185). -/
def Ident.expire (x : Ident) : Ident := { x with state := .stale, route := none, timer := none, data := [] }

/-- LATE_RESPONSES rises by one (R186). -/
def State.countLate (s : State) : State := { s with lateResponses := addCounter s.lateResponses 1 }

/-- A memory end arrives for a STALE or a FREE tag or slot (R186, R187). -/
def State.late (s : State) (k : BusKind) (t : BusNo) : State :=
  let x := s.ident k t
  match x.state with
  | .busy => s
  | .free => s.countLate.logEvent (busEvent .lateResponse none k t)
  | .stale =>
    (((s.modIdent k t Ident.release).setExhausted k false).countLate).logEvent
      (busEvent .lateResponse (some x.address) k t)

/-- Three acts of one event that may each raise an error event, in any order (R159). -/
def inAnyOrder (f g h : State → State) (s : State) : State :=
  let v (i : Nat) : Bool := Config.firstEventFirst (s.openValues + i)
  let s' := { s with openValues := s.openValues + 3 }
  if v 0 then if v 1 then h (g (f s')) else g (h (f s'))
  else if v 1 then if v 2 then h (f (g s')) else f (h (g s'))
  else if v 2 then g (f (h s')) else f (g (h s'))

/-- Two acts of one event, the second after the first, and a third that may come before, between or after them
(R159). -/
def inOrderWith (first second other : State → State) (s : State) : State :=
  let v (i : Nat) : Bool := Config.firstEventFirst (s.openValues + i)
  let s' := { s with openValues := s.openValues + 2 }
  if v 0 then if v 1 then other (second (first s')) else second (other (first s'))
  else second (first (other s'))

/-- The identifier held a line fill. -/
def Ident.fills (x : Ident) : Bool :=
  match x.route with
  | some (.fill _) => true
  | _ => false

/-- The response timer of a BUSY tag or slot expires (R185): it becomes STALE, MEMORY_TIMEOUT reaches the requester, and
the bus master reports the timeout and, where it was the last, the exhaustion (R187). Where the timeout of a fill fails
a SEND in the same event, the bus master has reported it before (R97). -/
def State.timedOut (s : State) (k : BusKind) (t : BusNo) : State :=
  let x := s.ident k t
  let report (s : State) : State := s.logEvent (busEvent .memoryTimeout (some x.address) k t)
  if x.state = .busy then
    ((if x.fills then inOrderWith report (State.routeTimeout k x) (State.noteExhaustion k)
      else inAnyOrder (State.routeTimeout k x) report (State.noteExhaustion k))
      (s.modIdent k t Ident.expire)).checkSettle
  else s

/-- The end of a read arrives for read tag t (R184): it is routed where the tag is BUSY, else it is late (R186). A
timeout is the expiry of the tag's timer. -/
def State.readEnd (s : State) (t : BusNo) (e : ReadEnd) : State :=
  let x := s.readTag t
  match x.state, e with
  | .busy, .timeout => s.timedOut .read t
  | .busy, e =>
    match x.route with
    | some r => ((s.modIdent .read t Ident.release).routeRead x.address e r).checkSettle
    | none => (s.modIdent .read t Ident.release).checkSettle
  | _, .timeout => s
  | _, _ => s.late .read t

/-- The end of a write arrives for write slot t (R184). -/
def State.writeEnd (s : State) (t : BusNo) (e : WriteEnd) : State :=
  let x := s.writeSlot t
  match x.state, e with
  | .busy, .timeout => s.timedOut .write t
  | .busy, e =>
    match x.route with
    | some r => ((s.modIdent .write t Ident.release).routeWrite x.address (writeFailure e) r).checkSettle
    | none => (s.modIdent .write t Ident.release).checkSettle
  | _, .timeout => s
  | _, _ => s.late .write t

/-- A command record at the front of the 64 bytes that a read may hand over. -/
def padRecord (v : Vector Byte 32) : Vector Byte 64 := Vector.ofFn fun i => (v[(i : Nat)]?).getD 0

/-- A command record arrives for read tag t (R163, R165): where the tag holds a command fetch that the control
processor awaits, act is what the command does; on any other tag it is the end of that tag's read. -/
def State.commandRead (s : State) (t : BusNo) (c : Vector Byte 32) (act : State → State) : State :=
  let x := s.readTag t
  if x.state = .busy ∧ x.route = some .command ∧ s.awaitsCommand = true then
    act ((s.modIdent .read t Ident.release).holdCommand c)
  else s.readEnd t (.data (padRecord c))

end Sys2Proof.Machine
end

