-- ==== Sys2Proof/Machine/RegisterWindow.lean ====
section
/-! DEFINITION. Writes to the register window (sections 11.1 and 9.1). Reads change nothing and are
State.readRegister. -/

namespace Sys2Proof.Machine

/-! ### CONTROL (R195, R197) -/

/-- The part enters STARTING and offers the start record read (R197). -/
def State.enterStarting (s : State) : State := { s with partState := .starting, startRead := some s.startAddr }

/-- RUN taken: it acts in DORMANT only (R195). -/
def State.takeRun (s : State) : State := if s.partState = .dormant then s.enterStarting else s

/-- A write to CONTROL (R195). -/
def State.writeControl (s : State) (w : Word) : State :=
  if w.getLsbD 1 then s.enterResetting else if w.getLsbD 0 then s.takeRun else s

/-! ### The start address (R194) -/

/-- Address bits 32 to 47 over bits 0 to 31. -/
def joinAddr (hi : BitVec 16) (lo : Word) : Addr := hi ++ lo

/-- A write to START_ADDR_LO sets address bits 6 to 31. -/
def State.writeStartLo (s : State) (w : Word) : State :=
  { s with startAddr := joinAddr (s.startAddr.extractLsb' 32 16) (w.extractLsb' 6 26 ++ (0 : BitVec 6)) }

/-- A write to START_ADDR_HI sets address bits 32 to 47. -/
def State.writeStartHi (s : State) (w : Word) : State :=
  { s with startAddr := joinAddr (w.extractLsb' 0 16) (s.startAddr.extractLsb' 0 32) }

/-! ### RING_NOTIFY and STATUS_RELEASE (R196) -/

/-- The value of a RING_NOTIFY or STATUS_RELEASE write. -/
def writtenValue (w : Word) : Nat := (w.extractLsb' 0 16).toNat

/-- The selector of a RING_NOTIFY or STATUS_RELEASE write. -/
def writtenSelector (w : Word) : Nat := (w.extractLsb' 24 4).toNat

/-- What a selector names. -/
inductive Selected where
  | transfer (n : LinkId)
  | control
  | bad
deriving DecidableEq, Repr

/-- The selector decoded (R196). -/
def selected (w : Word) : Selected :=
  if h : writtenSelector w < 4 then .transfer ⟨writtenSelector w, h⟩
  else if writtenSelector w = 8 then .control
  else .bad

/-- Why a control ring notify is refused, where it is (R162). -/
def Control.notifyRefusal (c : Control) (t : Nat) : Option Code :=
  if c.size ≤ t then some .notifyRange
  else if ringDist c.size c.head t < c.fetchedCount then some .notifyRetract
  else none

/-- A control ring notify taken by the control processor (R162, R163). -/
def State.notifyControl (s : State) (t : Nat) : State :=
  match s.control.notifyRefusal t with
  | some code =>
    s.logEvent { cls := .register, code := code, source := .control, tag := none, address := none,
                 detail := some (BitVec.ofNat 32 t) }
  | none => (s.modControl fun c => { c with tail := t }).offerCommandFetch

/-- The event of a write with a bad selector (R196). -/
def selectorEvent (code : Code) (w : Word) : ErrorEvent :=
  { cls := .register, code := code, source := .register, tag := none, address := none, detail := some w }

/-- A write to RING_NOTIFY (R196). -/
def State.writeRingNotify (s : State) (w : Word) : State :=
  if s.partState = .running then
    match selected w with
    | .transfer n => s.notify n (writtenValue w)
    | .control => s.notifyControl (writtenValue w)
    | .bad => s.logEvent (selectorEvent .notifyRange w)
  else s

/-- A write to STATUS_RELEASE (R196). -/
def State.writeStatusRelease (s : State) (w : Word) : State :=
  if s.partState = .running then
    match selected w with
    | .transfer n => s.release (.s n) (writtenValue w)
    | .control => s.release .sc (writtenValue w)
    | .bad => s.logEvent (selectorEvent .releaseRange w)
  else s

/-! ### Any write (R194) -/

/-- A write of so many bytes at an offset of the window. One that is not 32 bits wide and aligned is ignored. -/
def State.writeRegister (s : State) (offset : BitVec 5) (bytes : Nat) (w : Word) : State :=
  if bytes != 4 then s
  else
    match offset.toNat with
    | 0x04 => s.writeControl w
    | 0x0C => s.writeStartLo w
    | 0x10 => s.writeStartHi w
    | 0x14 => s.writeRingNotify w
    | 0x18 => s.writeStatusRelease w
    | _ => s

/-- An event that reaches the part, with the acceptance of the offers it makes at its end (R128, log 4): while RESET# is
asserted it changes nothing (R194, R200). -/
def State.live (s : State) (f : State → State) : State := if s.resetHeld then s else (f s).acceptOffers

/-- An event with the input levels it finds (R63, log 3). While RESET# is asserted only the levels are noted. -/
def State.sensed (s : State) (lv : Levels) (f : State → State) : State := (s.sense lv).live f

end Sys2Proof.Machine
end

