-- ==== Sys2Proof/Machine/Arbiters.lean ====
section
/-! DEFINITION. The acts of the part's own arbiters, which the table lists as steps of their own: the class arbiter, the
pool arbiter, the acceptance of offers, and the start of a copy (log 4). -/

namespace Sys2Proof.Machine

/-- What a grant leads to besides the line: a WAITING copy enters FILLING_AHEAD (R93); STB# goes high and the handshake
timer of a RECEIVE starts (R75, R77, R109). -/
def State.noteGrant (s : State) (n : LinkId) (i : LineId) : State :=
  match (s.link n).dir with
  | .outbound =>
    s.modUnit n fun u => u.modCopy (s.line i).descSlot fun c =>
      if c.exec = .waiting then { c with exec := .fillingAhead } else c
  | .inbound => s.modLink n fun l => { l with handshakeTimer := startTimer l.config.timeout }

/-- The cursor from which a link's lines are cut. -/
def Link.streamCursor (l : Link) : CursorKind :=
  match l.dir with
  | .outbound => .fill
  | .inbound => .store

/-- One grant of the pool arbiter (R41, R47, R57). -/
def State.grantOne (s : State) : State :=
  match s.nextGrant, s.freeLines with
  | some n, i :: _ =>
    (({ s.cutLine n (s.link n).streamCursor i with grantPtr := n }).noteGrant n i).serveLink n
  | _, _ => s

/-- LINE_GRANT (R57). -/
def execLineGrant (lv : Levels) (s : State) : Host.Outcome State Fault Refusal := .next (s.sensed lv State.grantOne)

/-- REQUEST_ISSUE (R183, R188). -/
def execRequestIssue (kind : BusKind) (lv : Levels) (s : State) : Host.Outcome State Fault Refusal :=
  .next (s.sensed lv (·.issueAll kind))

/-- OFFER_ACCEPT (R128). Every event accepts its own offers, so this finds none between events (log 4). -/
def execOfferAccept (r : RingId) (lv : Levels) (s : State) : Host.Outcome State Fault Refusal :=
  .next (s.sensed lv (·.acceptOne r))

/-- DESCRIPTOR_START (R24, R31 to R36). -/
def execDescriptorStart (n : LinkId) (lv : Levels) (s : State) : Host.Outcome State Fault Refusal :=
  .next (s.sensed lv fun s => (s.startCopy n).serveLink n)

end Sys2Proof.Machine
end

