-- ==== Sys2Proof/Machine/ControlCommands.lean ====
section
/-! DEFINITION. The commands of the control ring (section 9): each row is the end of a command fetch that hands over a
record with the row's code (WellFormed), and what the command does in that event (R163, R165). -/

namespace Sys2Proof.Machine

/-- COMMAND_FETCH_FAILED (R164). -/
def execCommandFetchFailed (tag : BusNo) (f : MemFailure) (lv : Levels) (s : State) :
    Host.Outcome State Fault Refusal :=
  .next (s.sensed lv (·.readEnd tag (failedRead f)))

/-- UNKNOWN_COMMAND: a code that is not 1 to 10 (R165). -/
def execUnknownCommand (tag : BusNo) (c : Vector Byte 32) (lv : Levels) (s : State) :
    Host.Outcome State Fault Refusal :=
  .next (s.sensed lv (·.commandRead tag c (State.endCommand .unknownCommand)))

/-- CREATE_STATUS_RING, command 1 (R168). -/
def execCreateStatusRing (tag : BusNo) (c : Vector Byte 32) (lv : Levels) (s : State) :
    Host.Outcome State Fault Refusal :=
  .next (s.sensed lv (·.commandRead tag c fun s => s.withTarget c fun n => s.createStatusRing n c))

/-- DELETE_STATUS_RING, command 2 (R169). -/
def execDeleteStatusRing (tag : BusNo) (c : Vector Byte 32) (lv : Levels) (s : State) :
    Host.Outcome State Fault Refusal :=
  .next (s.sensed lv (·.commandRead tag c fun s => s.withTarget c fun n => s.deleteStatusRing n))

/-- CONFIGURE_LINK, command 3 (R170, R171). -/
def execConfigureLink (tag : BusNo) (c : Vector Byte 32) (lv : Levels) (s : State) :
    Host.Outcome State Fault Refusal :=
  .next (s.sensed lv (·.commandRead tag c fun s => s.withTarget c fun n => s.configureLink n c))

/-- CREATE_TRANSFER_RING, command 4 (R172). -/
def execCreateTransferRing (tag : BusNo) (c : Vector Byte 32) (lv : Levels) (s : State) :
    Host.Outcome State Fault Refusal :=
  .next (s.sensed lv (·.commandRead tag c fun s => s.withTarget c fun n => s.createTransferRing n c))

/-- DELETE_TRANSFER_RING, command 5 (R173). -/
def execDeleteTransferRing (tag : BusNo) (c : Vector Byte 32) (lv : Levels) (s : State) :
    Host.Outcome State Fault Refusal :=
  .next (s.sensed lv (·.commandRead tag c fun s => s.withTarget c fun n => s.deleteTransferRing n))

/-- RESUME_LINK, command 6 (R174). -/
def execResumeLink (tag : BusNo) (c : Vector Byte 32) (lv : Levels) (s : State) :
    Host.Outcome State Fault Refusal :=
  .next (s.sensed lv (·.commandRead tag c fun s => s.withTarget c fun n => s.resumeLink n c))

/-- ABORT_LINK, command 7 (R175). -/
def execAbortLink (tag : BusNo) (c : Vector Byte 32) (lv : Levels) (s : State) :
    Host.Outcome State Fault Refusal :=
  .next (s.sensed lv (·.commandRead tag c fun s => s.withTarget c fun n => s.abortLink n))

/-- SET_LINES, command 8 (R176). -/
def execSetLines (tag : BusNo) (c : Vector Byte 32) (lv : Levels) (s : State) : Host.Outcome State Fault Refusal :=
  .next (s.sensed lv (·.commandRead tag c fun s => s.withTarget c fun n => s.setLinesCommand n c))

/-- READ_COUNTERS, command 9 (R177). -/
def execReadCounters (tag : BusNo) (c : Vector Byte 32) (lv : Levels) (s : State) :
    Host.Outcome State Fault Refusal :=
  .next (s.sensed lv (·.commandRead tag c fun s => s.readCounters c))

/-- READ_ERROR_LOG, command 10 (R179). -/
def execReadErrorLog (tag : BusNo) (c : Vector Byte 32) (lv : Levels) (s : State) :
    Host.Outcome State Fault Refusal :=
  .next (s.sensed lv (·.commandRead tag c fun s => s.readErrorLog c))

end Sys2Proof.Machine
end

