-- ==== Sys2Proof/Machine/MemoryEnds.lean ====
section
/-! DEFINITION. The ends that memory delivers, and the expiry of response timers (sections 10.2 and 10.4). A row names
the end by its route; an end is delivered to the route that its tag or slot holds, and one that finds the tag or slot
not BUSY is a late response. -/

namespace Sys2Proof.Machine

/-- START_RECORD_READ_END (R197). -/
def execStartRecordReadEnd (tag : BusNo) (e : ReadEnd) (lv : Levels) (s : State) : Host.Outcome State Fault Refusal :=
  .next (s.sensed lv (·.readEnd tag e))

/-- DESCRIPTOR_FETCH_DATA (R8). -/
def execDescriptorFetchData (tag : BusNo) (bytes : Vector Byte 64) (lv : Levels) (s : State) :
    Host.Outcome State Fault Refusal :=
  .next (s.sensed lv (·.readEnd tag (.data bytes)))

/-- DESCRIPTOR_SLOT_FETCH_FAILURE (R9). -/
def execDescriptorSlotFetchFailure (tag : BusNo) (f : MemFailure) (lv : Levels) (s : State) :
    Host.Outcome State Fault Refusal :=
  .next (s.sensed lv (·.readEnd tag (failedRead f)))

/-- DESCRIPTOR_REREAD_END (R17). -/
def execDescriptorRereadEnd (tag : BusNo) (e : ReadEnd) (lv : Levels) (s : State) : Host.Outcome State Fault Refusal :=
  .next (s.sensed lv (·.readEnd tag e))

/-- TABLE_READ_DATA (R27). -/
def execTableReadData (tag : BusNo) (bytes : Vector Byte 64) (lv : Levels) (s : State) :
    Host.Outcome State Fault Refusal :=
  .next (s.sensed lv (·.readEnd tag (.data bytes)))

/-- TABLE_READ_FAILURE (R28). -/
def execTableReadFailure (tag : BusNo) (f : MemFailure) (lv : Levels) (s : State) :
    Host.Outcome State Fault Refusal :=
  .next (s.sensed lv (·.readEnd tag (failedRead f)))

/-- FILL_END (R42). -/
def execFillEnd (tag : BusNo) (e : ReadEnd) (lv : Levels) (s : State) : Host.Outcome State Fault Refusal :=
  .next (s.sensed lv (·.readEnd tag e))

/-- DISCARD_PENDING_FILL_END (R43). -/
def execDiscardPendingFillEnd (tag : BusNo) (e : ReadEnd) (lv : Levels) (s : State) :
    Host.Outcome State Fault Refusal :=
  .next (s.sensed lv (·.readEnd tag e))

/-- STORE_DONE (R114). -/
def execStoreDone (slot : BusNo) (lv : Levels) (s : State) : Host.Outcome State Fault Refusal :=
  .next (s.sensed lv (·.writeEnd slot .done))

/-- STORE_FAILURE (R118). -/
def execStoreFailure (slot : BusNo) (f : MemFailure) (lv : Levels) (s : State) : Host.Outcome State Fault Refusal :=
  .next (s.sensed lv (·.writeEnd slot (failedWrite f)))

/-- STATUS_WRITE_DONE (R130). -/
def execStatusWriteDone (slot : BusNo) (lv : Levels) (s : State) : Host.Outcome State Fault Refusal :=
  .next (s.sensed lv (·.writeEnd slot .done))

/-- STATUS_WRITE_FAILED (R131). -/
def execStatusWriteFailed (slot : BusNo) (f : MemFailure) (lv : Levels) (s : State) :
    Host.Outcome State Fault Refusal :=
  .next (s.sensed lv (·.writeEnd slot (failedWrite f)))

/-- STATUS_RING_FAILURE (R132). -/
def execStatusRingFailure (slot : BusNo) (f : MemFailure) (lv : Levels) (s : State) :
    Host.Outcome State Fault Refusal :=
  .next (s.sensed lv (·.writeEnd slot (failedWrite f)))

/-- MESSAGE_WRITE_END (R138). -/
def execMessageWriteEnd (slot : BusNo) (e : WriteEnd) (lv : Levels) (s : State) : Host.Outcome State Fault Refusal :=
  .next (s.sensed lv (·.writeEnd slot e))

/-- COUNTER_BLOCK_WRITE_END (R177, R178). -/
def execCounterBlockWriteEnd (slot : BusNo) (e : WriteEnd) (lv : Levels) (s : State) :
    Host.Outcome State Fault Refusal :=
  .next (s.sensed lv (·.writeEnd slot e))

/-- ERROR_LOG_WRITE_END (R179). -/
def execErrorLogWriteEnd (slot : BusNo) (e : WriteEnd) (lv : Levels) (s : State) : Host.Outcome State Fault Refusal :=
  .next (s.sensed lv (·.writeEnd slot e))

/-- RESPONSE_TIMEOUT (R185). -/
def execResponseTimeout (kind : BusKind) (id : BusNo) (lv : Levels) (s : State) :
    Host.Outcome State Fault Refusal :=
  .next (s.sensed lv (·.timedOut kind id))

/-- LATE_RESPONSE (R186). -/
def execLateResponse (kind : BusKind) (id : BusNo) (s : State) : Host.Outcome State Fault Refusal :=
  .next (s.live (·.late kind id))

end Sys2Proof.Machine
end

