-- ==== Sys2Proof/Machine/PortEvents.lean ====
section
/-! DEFINITION. The edges at the link ports and the expiries of the part's timers (section 4). An edge sets its input's
level whatever the part does with it; the part senses it while RUNNING (R85), at a link that is configured. An expiry of
a timer that does not run has no effect (log 5). -/

namespace Sys2Proof.Machine

/-- The part takes events at link n. -/
def State.linkSenses (s : State) (n : LinkId) : Bool :=
  s.partState == .running && (s.link n).state != .unconfigured

/-- An edge at link n: its level is set, and f is what the link does with it, followed by the rest of the event. -/
def State.edge (s : State) (n : LinkId) (lv : Levels) (pin : PinLevels → PinLevels) (f : State → State) : State :=
  ((s.sense lv).modPin n pin).live fun s => if s.linkSenses n then (f s).serveLink n else s

/-- An event inside link n in a RUNNING part. -/
def State.linkTimer (s : State) (n : LinkId) (lv : Levels) (f : State → State) : State :=
  s.sensed lv fun s => if s.partState = .running then (f s).serveLink n else s

/-! ### Outbound bytes (R70 to R74) -/

/-- TURNAROUND_END (R68, R69). -/
def execTurnaroundEnd (n : LinkId) (lv : Levels) (s : State) : Host.Outcome State Fault Refusal :=
  .next (s.linkTimer n lv fun s => if (s.link n).turnTimer.isSome then s.endTurn n else s)

/-- SETUP_END (R70). -/
def execSetupEnd (n : LinkId) (lv : Levels) (s : State) : Host.Outcome State Fault Refusal :=
  .next (s.linkTimer n lv fun s => if (s.link n).phase = .setup then s.beginStrobe n else s)

/-- STROBE_END (R70 to R73). A strobe that a halt or soft reset stopped ends here too (R85). -/
def execStrobeEnd (n : LinkId) (lv : Levels) (s : State) : Host.Outcome State Fault Refusal :=
  .next (s.sensed lv fun s => if (s.link n).phase = .strobe then (s.endStrobe n).serveLink n else s)

/-- HOLD_END (R72). -/
def execHoldEnd (n : LinkId) (lv : Levels) (s : State) : Host.Outcome State Fault Refusal :=
  .next (s.linkTimer n lv fun s => if (s.link n).phase = .hold then s.completeByte n else s)

/-- What BUSY going low does to a byte (R71). -/
def State.busyFell (s : State) (n : LinkId) : State :=
  match (s.link n).phase with
  | .busyWait => s.enterSetup n
  | .busyAfter => s.completeByte n
  | _ => s

/-- BUSY_LOW (R71, R83). -/
def execBusyLow (n : LinkId) (lv : Levels) (s : State) : Host.Outcome State Fault Refusal :=
  .next (s.edge n lv (fun p => { p with busy := false }) fun s => (s.busyFell n).checkWait n)

/-- ACK_PULSE (R71): ACK# rising with DIR 0. -/
def execAckPulse (n : LinkId) (lv : Levels) (s : State) : Host.Outcome State Fault Refusal :=
  .next (s.edge n lv (fun p => { p with ack := true }) fun s =>
    (if (s.link n).dir = .outbound then s.acknowledge n else s).checkWait n)

/-- The handshake timer of an outbound wait expires (R74). -/
def State.handshakeExpired (s : State) (n : LinkId) : State :=
  match (s.unit n).current with
  | some c =>
    if (s.link n).handshakeTimer.isSome ∧ c.kind = some .send then s.linkErrorSend n c .linkTimeout else s
  | none => s

/-- HANDSHAKE_TIMEOUT (R74). -/
def execHandshakeTimeout (n : LinkId) (lv : Levels) (s : State) : Host.Outcome State Fault Refusal :=
  .next (s.linkTimer n lv (·.handshakeExpired n))

/-! ### Inbound bytes (R75 to R77) -/

/-- The handshake timer expires while gathering (R77). -/
def State.inboundExpired (s : State) (n : LinkId) : State :=
  match (s.unit n).current with
  | some c =>
    if (s.link n).handshakeTimer.isSome ∧ (s.link n).gathering = true ∧ c.kind = some .receive then
      s.linkErrorReceive n c .linkTimeout
    else s
  | none => s

/-- INBOUND_HANDSHAKE_TIMEOUT (R77). -/
def execInboundHandshakeTimeout (n : LinkId) (lv : Levels) (s : State) : Host.Outcome State Fault Refusal :=
  .next (s.linkTimer n lv (·.inboundExpired n))

/-- BYTE_LATCH (R76): ACK# rising with DIR 1. -/
def execByteLatch (n : LinkId) (d : Byte) (lv : Levels) (s : State) : Host.Outcome State Fault Refusal :=
  .next (s.edge n lv (fun p => { p with ack := true }) fun s =>
    (if (s.link n).dir = .inbound then s.latch n d else s).checkWait n)

/-! ### ATTN and FAULT# (R78 to R80) -/

/-- A rising edge of ATTN outside a gathering RECEIVE (R80): a clear latch is set and a record owed. A SIGNAL may have
waited for the edge (R83): the latch is set before that wait ends, so that a record made at the end of the SIGNAL shows
it set (DESIGN CHOICE, log 27), and that record is presented before the ATTENTION record (R127). -/
def State.attnLatched (s : State) (n : LinkId) : State :=
  if (s.link n).attnLatch then s.checkWait n
  else
    (((s.modLink n fun l => { l with attnLatch := true, attnOwed := true }).checkWait n).serveLink n).offerAttention n

/-- What a rising edge of ATTN does (R79, R80, R83). -/
def State.attnRose (s : State) (n : LinkId) : State :=
  match (s.unit n).current with
  | some c => if (s.link n).gathering ∧ c.kind = some .receive then s.attnEndsReceive n c else s.attnLatched n
  | none => s.attnLatched n

/-- ATTN_RISING (R79, R80, R83). -/
def execAttnRising (n : LinkId) (lv : Levels) (s : State) : Host.Outcome State Fault Refusal :=
  .next (s.edge n lv (fun p => { p with attn := true }) (·.attnRose n))

/-- What a falling edge of FAULT# does (R78). -/
def State.faultFell (s : State) (n : LinkId) : State :=
  match (s.unit n).current with
  | some c =>
    if !(s.link n).config.faultStops then s
    else
      match c.kind with
      | some .send => s.linkErrorSend n c .linkFault
      | some .receive => s.linkErrorReceive n c .linkFault
      | _ => s
  | none => s

/-- FAULT_FALLING (R78, R83). -/
def execFaultFalling (n : LinkId) (lv : Levels) (s : State) : Host.Outcome State Fault Refusal :=
  .next (s.edge n lv (fun p => { p with fault := false }) fun s => (s.faultFell n).checkWait n)

/-! ### SIGNAL (R82, R83) -/

/-- PULSE_TIMER_EXPIRY (R82). -/
def execPulseTimerExpiry (n : LinkId) (lv : Levels) (s : State) : Host.Outcome State Fault Refusal :=
  .next (s.linkTimer n lv fun s => if (s.link n).pulseTimer.isSome then s.endPulse n else s)

/-- An input with its awaited level. -/
def meetLevel (w : WaitCond) (p : PinLevels) : PinLevels :=
  match w with
  | .none => p
  | .attnHigh => { p with attn := true }
  | .attnLow => { p with attn := false }
  | .faultHigh => { p with fault := true }
  | .faultLow => { p with fault := false }
  | .busyHigh => { p with busy := true }
  | .busyLow => { p with busy := false }

/-- The awaited level comes as an edge and ends the wait; where the part senses that edge for itself, it acts as such
too (R78, R80). -/
def State.awaitedEdge (s : State) (n : LinkId) (w : WaitCond) : State :=
  match w with
  | .attnHigh => s.attnRose n
  | .faultLow => (s.faultFell n).checkWait n
  | .busyLow => (s.busyFell n).checkWait n
  | .none | .attnLow | .faultHigh | .busyHigh => s.checkWait n

/-- SIGNAL_WAIT_MET (R83): the input that the SIGNAL awaits reaches its level. -/
def execSignalWaitMet (n : LinkId) (lv : Levels) (s : State) : Host.Outcome State Fault Refusal :=
  .next (match (s.link n).wait with
    | some w => s.edge n lv (meetLevel w) (·.awaitedEdge n w)
    | none => s.sense lv)

/-- SIGNAL_WAIT_LIMIT_EXPIRY (R83, R146). -/
def execSignalWaitLimitExpiry (n : LinkId) (lv : Levels) (s : State) : Host.Outcome State Fault Refusal :=
  .next (s.linkTimer n lv fun s => if (s.link n).limitTimer.isSome then s.waitExpired n else s)

/-! ### Status rings (R134) -/

/-- MODERATION_TIMER_EXPIRY (R134). -/
def execModerationTimerExpiry (r : RingId) (s : State) : Host.Outcome State Fault Refusal :=
  .next (s.live (·.moderationExpired r))

end Sys2Proof.Machine
end

