-- ==== Sys2Proof/Machine/RegisterCommands.lean ====
section
/-! DEFINITION. The commands of the register window and of reset (sections 11.1, 11.4, 11.5): one meaning for each row.
The word written decides what a write does (WellFormed says which words a row stands for). -/

namespace Sys2Proof.Machine

/-- RUN (R195, R197). -/
def execRun (w : Word) (s : State) : Host.Outcome State Fault Refusal := .next (s.live (·.writeControl w))

/-- SOFT_RESET (R195, R199). -/
def execSoftReset (w : Word) (s : State) : Host.Outcome State Fault Refusal := .next (s.live (·.writeControl w))

/-- SETTLE_WAIT_END: the settle wait's limit runs out (R199). The end that comes with the last BUSY tag or slot is part
of that memory end. -/
def execSettleWaitEnd (s : State) : Host.Outcome State Fault Refusal := .next (s.live State.settleExpired)

/-- HARDWARE_RESET (R200). -/
def execHardwareReset (s : State) : Host.Outcome State Fault Refusal := .next s.hardwareReset

/-- RESET_RELEASE (R200). -/
def execResetRelease (s : State) : Host.Outcome State Fault Refusal := .next s.releaseReset

/-- TRANSFER_RING_NOTIFY (R4, R5, R196). -/
def execTransferRingNotify (w : Word) (s : State) : Host.Outcome State Fault Refusal :=
  .next (s.live (·.writeRingNotify w))

/-- CONTROL_RING_NOTIFY (R162, R196). -/
def execControlRingNotify (w : Word) (s : State) : Host.Outcome State Fault Refusal :=
  .next (s.live (·.writeRingNotify w))

/-- NOTIFY_BAD_SELECTOR (R196). -/
def execNotifyBadSelector (w : Word) (s : State) : Host.Outcome State Fault Refusal :=
  .next (s.live (·.writeRingNotify w))

/-- RELEASE (R133, R196). -/
def execRelease (w : Word) (s : State) : Host.Outcome State Fault Refusal := .next (s.live (·.writeStatusRelease w))

/-- RELEASE_BAD_SELECTOR (R196). -/
def execReleaseBadSelector (w : Word) (s : State) : Host.Outcome State Fault Refusal :=
  .next (s.live (·.writeStatusRelease w))

/-- REGISTER_WRITE (R194, R196). -/
def execRegisterWrite (offset : BitVec 5) (bytes : Nat) (w : Word) (s : State) : Host.Outcome State Fault Refusal :=
  .next (s.live (·.writeRegister offset bytes w))

end Sys2Proof.Machine
end

