-- ==== Sys2Proof/Machine/Dispatch.lean ====
section
/-! DEFINITION. Each command with its meaning, one arm for each row of the table. -/

namespace Sys2Proof.Machine

def exec (i : Instr) (s : State) : Host.Outcome State Fault Refusal :=
  match i with
  | .run w => Sys2Proof.Machine.execRun w s
  | .softReset w => Sys2Proof.Machine.execSoftReset w s
  | .settleWaitEnd => Sys2Proof.Machine.execSettleWaitEnd s
  | .hardwareReset => Sys2Proof.Machine.execHardwareReset s
  | .transferRingNotify w => Sys2Proof.Machine.execTransferRingNotify w s
  | .controlRingNotify w => Sys2Proof.Machine.execControlRingNotify w s
  | .notifyBadSelector w => Sys2Proof.Machine.execNotifyBadSelector w s
  | .release w => Sys2Proof.Machine.execRelease w s
  | .releaseBadSelector w => Sys2Proof.Machine.execReleaseBadSelector w s
  | .registerWrite offset bytes w => Sys2Proof.Machine.execRegisterWrite offset bytes w s
  | .startRecordReadEnd tag e lv => Sys2Proof.Machine.execStartRecordReadEnd tag e lv s
  | .commandFetchFailed tag f lv => Sys2Proof.Machine.execCommandFetchFailed tag f lv s
  | .unknownCommand tag c lv => Sys2Proof.Machine.execUnknownCommand tag c lv s
  | .createStatusRing tag c lv => Sys2Proof.Machine.execCreateStatusRing tag c lv s
  | .deleteStatusRing tag c lv => Sys2Proof.Machine.execDeleteStatusRing tag c lv s
  | .configureLink tag c lv => Sys2Proof.Machine.execConfigureLink tag c lv s
  | .createTransferRing tag c lv => Sys2Proof.Machine.execCreateTransferRing tag c lv s
  | .deleteTransferRing tag c lv => Sys2Proof.Machine.execDeleteTransferRing tag c lv s
  | .resumeLink tag c lv => Sys2Proof.Machine.execResumeLink tag c lv s
  | .abortLink tag c lv => Sys2Proof.Machine.execAbortLink tag c lv s
  | .setLines tag c lv => Sys2Proof.Machine.execSetLines tag c lv s
  | .readCounters tag c lv => Sys2Proof.Machine.execReadCounters tag c lv s
  | .readErrorLog tag c lv => Sys2Proof.Machine.execReadErrorLog tag c lv s
  | .descriptorFetchData tag bytes lv => Sys2Proof.Machine.execDescriptorFetchData tag bytes lv s
  | .descriptorSlotFetchFailure tag f lv => Sys2Proof.Machine.execDescriptorSlotFetchFailure tag f lv s
  | .descriptorRereadEnd tag e lv => Sys2Proof.Machine.execDescriptorRereadEnd tag e lv s
  | .tableReadData tag bytes lv => Sys2Proof.Machine.execTableReadData tag bytes lv s
  | .tableReadFailure tag f lv => Sys2Proof.Machine.execTableReadFailure tag f lv s
  | .fillEnd tag e lv => Sys2Proof.Machine.execFillEnd tag e lv s
  | .discardPendingFillEnd tag e lv => Sys2Proof.Machine.execDiscardPendingFillEnd tag e lv s
  | .storeDone slot lv => Sys2Proof.Machine.execStoreDone slot lv s
  | .storeFailure slot f lv => Sys2Proof.Machine.execStoreFailure slot f lv s
  | .statusWriteDone slot lv => Sys2Proof.Machine.execStatusWriteDone slot lv s
  | .statusWriteFailed slot f lv => Sys2Proof.Machine.execStatusWriteFailed slot f lv s
  | .statusRingFailure slot f lv => Sys2Proof.Machine.execStatusRingFailure slot f lv s
  | .messageWriteEnd slot e lv => Sys2Proof.Machine.execMessageWriteEnd slot e lv s
  | .counterBlockWriteEnd slot e lv => Sys2Proof.Machine.execCounterBlockWriteEnd slot e lv s
  | .errorLogWriteEnd slot e lv => Sys2Proof.Machine.execErrorLogWriteEnd slot e lv s
  | .responseTimeout kind id lv => Sys2Proof.Machine.execResponseTimeout kind id lv s
  | .lateResponse kind id => Sys2Proof.Machine.execLateResponse kind id s
  | .requestIssue kind lv => Sys2Proof.Machine.execRequestIssue kind lv s
  | .lineGrant lv => Sys2Proof.Machine.execLineGrant lv s
  | .offerAccept r lv => Sys2Proof.Machine.execOfferAccept r lv s
  | .descriptorStart n lv => Sys2Proof.Machine.execDescriptorStart n lv s
  | .turnaroundEnd n lv => Sys2Proof.Machine.execTurnaroundEnd n lv s
  | .setupEnd n lv => Sys2Proof.Machine.execSetupEnd n lv s
  | .strobeEnd n lv => Sys2Proof.Machine.execStrobeEnd n lv s
  | .holdEnd n lv => Sys2Proof.Machine.execHoldEnd n lv s
  | .busyLow n lv => Sys2Proof.Machine.execBusyLow n lv s
  | .ackPulse n lv => Sys2Proof.Machine.execAckPulse n lv s
  | .handshakeTimeout n lv => Sys2Proof.Machine.execHandshakeTimeout n lv s
  | .inboundHandshakeTimeout n lv => Sys2Proof.Machine.execInboundHandshakeTimeout n lv s
  | .byteLatch n d lv => Sys2Proof.Machine.execByteLatch n d lv s
  | .attnRising n lv => Sys2Proof.Machine.execAttnRising n lv s
  | .faultFalling n lv => Sys2Proof.Machine.execFaultFalling n lv s
  | .pulseTimerExpiry n lv => Sys2Proof.Machine.execPulseTimerExpiry n lv s
  | .signalWaitMet n lv => Sys2Proof.Machine.execSignalWaitMet n lv s
  | .signalWaitLimitExpiry n lv => Sys2Proof.Machine.execSignalWaitLimitExpiry n lv s
  | .moderationTimerExpiry r => Sys2Proof.Machine.execModerationTimerExpiry r s
  | .resetRelease => Sys2Proof.Machine.execResetRelease s

end Sys2Proof.Machine
end

