-- ==== Sys2Proof/Machine/Step.lean ====
section
/-! DEFINITION. One step: the command at the front of the queue is taken and run. -/

namespace Sys2Proof.Machine

/-- The commands that still wait once the front one has been taken. -/
def State.withPending (s : State) (q : List Instr) : State := { s with pending := q }

/-- The front command runs on the state with the queue's rest; on an empty queue the part idles (log 8). -/
def step (s : State) : Host.Outcome State Fault Refusal :=
  match s.pending with
  | i :: q => exec i (s.withPending q)
  | [] => .next s

/-- The command that a word spells is put at the front of the queue; the state is unchanged where it spells none. -/
def State.withFetchWord (s : State) (nbits w : Nat) : State :=
  match decodeTableWord nbits w with
  | some i => s.withPending (i :: s.pending)
  | none => s

end Sys2Proof.Machine
end

