-- ==== Sys2Proof/Safety.lean ====
section
/-! DEFINITION. The terms in which claims about runs are stated: what an event inside a link may change, when a link has
nothing left to do, what a record taken, a byte sent and a failure leave, and the invariant of the part. -/

namespace Sys2Proof.Machine

/-- t is s but for the link engines, the ring units, the lines, the control processor, the error log with its notices,
and STATUS_RECORDS_DISCARDED: all that an event inside a link may change. -/
def State.OnlyLinks (s t : State) : Prop :=
  t = { s with
    links := t.links, units := t.units, lines := t.lines, control := t.control, errorLog := t.errorLog,
    notices := t.notices, recordsDiscarded := t.recordsDiscarded }

/-- Link n has nothing left to do in an event: no byte to start, no RECEIVE to end, no bytes_done to fix, no descriptor
to enter, and nothing at the front of its window. -/
def State.AtRest (n : LinkId) (s : State) : Prop :=
  s.drain n = s ∧ s.checkReceive n = s ∧ s.fixBytes n = s ∧ s.advanceFill n = s ∧ s.windowStep n = none

/-- The error log after it has taken an event (R159). -/
def ErrorLog.after (l : ErrorLog) (e : ErrorEvent) : ErrorLog :=
  match l.first with
  | none => l.fill e
  | some _ => l.repeatEvent e

/-- Read tag or write slot i is BUSY with a request of a route, in a part whose RESET# is released. -/
def State.Holds (s : State) (k : BusKind) (i : BusNo) (r : Route) : Prop :=
  s.resetHeld = false ∧ (s.ident k i).state = .busy ∧ (s.ident k i).route = some r

/-- The part as an end finds it: the levels it sees are noted and tag or slot i is FREE (R184). -/
def State.freed (s : State) (k : BusKind) (i : BusNo) (lv : Levels) : State :=
  (s.sense lv).modIdent k i fun x =>
    { state := .free, cls := x.cls, address := 0, length := 0, route := none, timer := none, data := [] }

/-- The part is RUNNING and read tag i is BUSY with the command fetch that the control processor awaits. -/
def State.Awaits (s : State) (i : BusNo) : Prop :=
  s.Holds .read i .command ∧ s.partState = .running ∧ s.control.state = .fetching

/-- The part as a command is taken: its record is the current command copy, in EXECUTING (R163). -/
def State.taken (s : State) (i : BusNo) (c : Vector Byte 32) (lv : Levels) : State :=
  (s.freed .read i lv).modControl fun x => { x with state := .executing, current := some c }

/-- The control processor once its RESULT has been accepted: head has moved past the command's slot, and it is IDLE, or
FETCHING where more is posted (R163, R166). That the outcome goes with the copy is the model's (log 32, DEDUCED). -/
def Control.answered (c : Control) : Control :=
  let head := (c.head + 1) % c.size
  let ended := { c with
    state := .idle, head := head, current := none, outcome := none, capture := .none, failure := none
    resultOffer := none }
  if 0 < (c.tail + c.size - head) % c.size then
    { ended with state := .fetching, fetched := (c.fetched + 1) % c.size }
  else ended

/-- The offer of the COMPLETION with CANCELLED of a copy of link n, made in state s (R154 to R156). -/
def State.cancelledOffer (s : State) (n : LinkId) (x : Copy) (bytes : Nat) : Offer :=
  { purpose := .retire
    record := { kind := .completion, source := .link n, tag := x.tag, outcome := .cancelled, bytesDone := bytes,
                ringHead := (x.slot + 1) % (s.unit n).size, snapshot := s.snapshotOf n, holdCause := none,
                detail := .absent } }

/-- The offer of the hold record of a failed copy of link n, made in state s: its COMPLETION with hold cause ERROR and
the copy's own slot as ring_head (R126, R145, R147). -/
def State.failedOffer (s : State) (n : LinkId) (slot : Nat) (tag : BitVec 16) (o : Code) (bytes : Nat) (d : Detail) :
    Offer :=
  { purpose := .holdRecord
    record := { kind := .completion, source := .link n, tag := tag, outcome := o, bytesDone := bytes, ringHead := slot,
                snapshot := s.snapshotOf n, holdCause := some .error, detail := d } }

/-- Link n may have its COMPLETION or hold record stand: none but an ATTENTION record stands, and the ring it reports to
is not FAILED (R127, R132). -/
def State.MayOffer (s : State) (n : LinkId) : Prop :=
  (∀ o, o ∈ (s.link n).offers → o.purpose = .attention) ∧
  ∀ r, (s.unit n).statusRing = some r → (s.ring (.s r)).state ≠ .failed

/-- t is s, but for what an event inside a link may change, as the hold record of the failed copy of a slot has been
offered: it stands behind the offers that stood, and link n stays in its state until it is accepted (R145, R147). -/
def State.HoldOffered (s : State) (n : LinkId) (slot : Nat) (tag : BitVec 16) (o : Code) (bytes : Nat) (d : Detail)
    (t : State) : Prop :=
  s.OnlyLinks t ∧ (t.link n).holdRecord = .offered ∧
  (t.link n).offers = (s.link n).offers ++ [t.failedOffer n slot tag o bytes d]

/-- s as the SIGNAL of link n has ended with OK: its copy is DONE_UNRETIRED with no bytes, no wait and no limit timer
runs, and DESC_OK has risen (R83, R104). -/
def State.signalEnded (s : State) (n : LinkId) : State :=
  (s.modUnit n fun u =>
    { u with window := u.window.map fun x =>
        if x.exec = .current then { x with exec := .doneUnretired, outcome := some .ok, bytesDone := some 0 }
        else x }).modLink n fun l =>
    { l with wait := none, limitTimer := none, sub := .idle, descOk := addCounter l.descOk 1 }

/-- s as the wait of link n's SIGNAL, if one runs, has seen the levels: it ends where its input stands at the awaited
level, and else goes on (R83). -/
def State.waitSeen (s : State) (n : LinkId) : State :=
  match (s.link n).wait with
  | some w => if levelMeets (s.pin n) w then s.signalEnded n else s
  | none => s

/-- The little-endian number in the bytes of b from offset off on, len of them (R201). -/
def fieldOf (b : List Byte) (off len : Nat) : Nat :=
  (List.range len).foldr (fun i acc => ((b[off + i]?).getD 0).toNat + 256 * acc) 0

/-- Link n cancels its window with nothing under way: the record o of its front copy is the one that stands, and the
next that its status ring r, ACTIVE with a place, accepts. -/
structure State.CancelsFront (s : State) (n r : LinkId) (o : Offer) (c : Copy) (cs : List Copy) : Prop where
  part : s.partState = .running
  window : (s.unit n).window = c :: cs
  record : (s.link n).offers = [o] ∧ o.purpose = .retire
  atRest : (s.link n).lines = [] ∧ (s.link n).phase = .none ∧ (s.link n).turnTimer = none ∧
    (s.unit n).fetchOutstanding = false
  ring : (s.unit n).statusRing = some r ∧ (s.ring (.s r)).state = .active ∧
    (s.ring (.s r)).pending.length < Config.pendingSize ∧ s.nextProducer (.s r) = some (.link n)

/-- The part as status ring Sr takes the record of link n: it stands at the back of the ring's list (R128). -/
def State.recordTaken (s : State) (n r : LinkId) (o : Offer) : State :=
  s.modRing (.s r) fun x => { x with pending := x.pending ++ [o.record], pointer := .link n }

/-- The link engine once a byte counts as sent (R73, R95). -/
def Link.byteSent (l : Link) : Link :=
  { l with
    phase := .none, phaseTimer := none, ackSeen := false, stop := .none, handshakeTimer := none
    sentCount := l.sentCount + 1, bytesOut := addCounter l.bytesOut 1 }

/-- Line i leaves the list of link n and is FREE (R38). -/
def State.lineFreed (s : State) (n : LinkId) (i : LineId) : State :=
  (s.modLink n fun l => { l with lines := l.lines.erase i }).modLine i fun x => Line.freeWith x.data

/-- t is s as the byte of link n at the drain offset of line i completes. Where it is not the last byte of its line, the
offset moves on; an unmarked line whose last byte it was is FREE (R45, R95). The last byte of a marked line ends the
CURRENT SEND, which stands at the front or behind SENDs that have ended and not retired: its line is FREE, its copy
DONE_UNRETIRED with OK and the bytes sent, DESC_OK rises, and a good SEND next to it in the window becomes CURRENT in
the same event (R35, R96, R104); with fault_stops set and FAULT# low that one fails at once with LINK_FAULT and no bytes
sent (R78, R99). -/
structure State.ByteSent (s : State) (n : LinkId) (i : LineId) (t : State) : Prop where
  more : (s.line i).offset + 1 < (s.line i).length →
    t = (s.modLink n Link.byteSent).modLine i fun x => { x with offset := x.offset + 1 }
  line : (s.line i).length ≤ (s.line i).offset + 1 → (s.line i).last = false → (s.line i).owner = some n →
    t = (s.modLink n Link.byteSent).lineFreed n i
  send : (s.line i).length ≤ (s.line i).offset + 1 → (s.line i).last = true → (s.line i).owner = some n →
    ∀ (ahead : List Copy) (c : Copy) (cs : List Copy), (s.unit n).window = ahead ++ c :: cs → c.exec = .current →
      c.kind = some .send → ((s.unit n).window.map (·.slot)).Nodup →
      (∀ x, x ∈ ahead → x.exec = .doneUnretired ∧ x.kind = some .send ∧ x.pauseAfter = false) →
      let faultLow := (s.link n).config.faultStops = true ∧ (s.pin n).fault = false
      s.OnlyLinks t ∧ (t.unit n).window.take (ahead.length + 1) = ahead ++ [{ c with
        exec := .doneUnretired, outcome := some .ok, bytesDone := some ((s.link n).sentCount + 1) }] ∧
      (t.unit n).window.map (·.slot) = (s.unit n).window.map (·.slot) ∧
      (t.line i).state = .free ∧ (t.link n).phase = .none ∧
      (t.link n).bytesOut = addCounter (s.link n).bytesOut 1 ∧ (t.link n).descOk = addCounter (s.link n).descOk 1 ∧
      (¬faultLow → (t.link n).lines = (s.link n).lines.erase i) ∧
      ((∀ x, x ∈ cs → x.kind ≠ some .send) → (t.link n).sub = .idle) ∧
      ∀ x xs, cs = x :: xs → x.good .send = true → x.unstarted = true → c.pauseAfter = false →
        (¬faultLow → (t.link n).sub = .sending ∧ (t.link n).sentCount = 0 ∧
          (t.unit n).current = some { x with exec := .current }) ∧
        (faultLow → (t.link n).state = .holding ∧ (t.link n).holdCause = some .error ∧
          (t.link n).heldCopy = some x.slot ∧ (t.link n).sub = .idle ∧
          (t.link n).descFailed = addCounter (s.link n).descFailed 1 ∧ (t.unit n).copy x.slot = some { x with
            exec := .failed, outcome := some .linkFault, detail := .absent, bytesDone := some 0 } ∧
          t.errorLog = s.errorLog.after {
            cls := .link, code := .linkFault, source := .link n, tag := some x.tag, address := none,
            detail := none })

/-- The tag or slot whose end a command brings from memory, whether it is the expiry of its timer, and the levels the
command finds. -/
def memoryEnd : Instr → Option (BusKind × BusNo × Bool × Levels)
  | .startRecordReadEnd t e lv | .descriptorRereadEnd t e lv | .fillEnd t e lv | .discardPendingFillEnd t e lv =>
    some (.read, t, e = .timeout, lv)
  | .commandFetchFailed t f lv | .descriptorSlotFetchFailure t f lv | .tableReadFailure t f lv =>
    some (.read, t, f = .timeout, lv)
  | .unknownCommand t _ lv | .createStatusRing t _ lv | .deleteStatusRing t _ lv | .configureLink t _ lv
  | .createTransferRing t _ lv | .deleteTransferRing t _ lv | .resumeLink t _ lv | .abortLink t _ lv
  | .setLines t _ lv | .readCounters t _ lv | .readErrorLog t _ lv => some (.read, t, false, lv)
  | .descriptorFetchData t _ lv | .tableReadData t _ lv => some (.read, t, false, lv)
  | .storeDone t lv | .statusWriteDone t lv => some (.write, t, false, lv)
  | .storeFailure t f lv | .statusWriteFailed t f lv | .statusRingFailure t f lv => some (.write, t, f = .timeout, lv)
  | .messageWriteEnd t e lv | .counterBlockWriteEnd t e lv | .errorLogWriteEnd t e lv =>
    some (.write, t, e = .timeout, lv)
  | .responseTimeout k t lv => some (k, t, true, lv)
  | .run _ | .softReset _ | .settleWaitEnd | .hardwareReset | .transferRingNotify _ | .controlRingNotify _
  | .notifyBadSelector _ | .release _ | .releaseBadSelector _ | .registerWrite .. | .lateResponse .. | .requestIssue ..
  | .lineGrant _ | .offerAccept .. | .descriptorStart .. | .turnaroundEnd .. | .setupEnd .. | .strobeEnd ..
  | .holdEnd .. | .busyLow .. | .ackPulse .. | .handshakeTimeout .. | .inboundHandshakeTimeout .. | .byteLatch ..
  | .attnRising .. | .faultFalling .. | .pulseTimerExpiry .. | .signalWaitMet .. | .signalWaitLimitExpiry ..
  | .moderationTimerExpiry _ | .resetRelease => none

/-- t is the part returned to DORMANT by a soft reset of s (R192, R199). -/
structure State.DormantFrom (s t : State) : Prop where
  partState : t.partState = .dormant ∧ t.haltCause = .none ∧ t.startRead = none ∧ t.settleTimer = none
  links : ∀ n, t.link n = Link.reset ∧ t.unit n = RingUnit.reset
  rings : ∀ r, t.ring r = StatusRing.reset
  control : t.control = Control.reset ∧ t.notices = []
  pool : t.grantPtr = 3 ∧ ∀ i, t.line i = Line.freeWith (s.line i).data
  counters : t.lateResponses = 0 ∧ t.recordsDiscarded = 0
  pointers : t.pointers = Pointers.reset
  kept : t.startAddr = s.startAddr ∧ t.pins = s.pins
  idents : ∀ k i, ((s.ident k i).state = .free → t.ident k i = Ident.reset) ∧
    ((s.ident k i).state ≠ .free → (t.ident k i).state = .stale ∧ (t.ident k i).address = (s.ident k i).address ∧
      (t.ident k i).length = (s.ident k i).length)
  exhausted : ∀ k, s.exhausted k = true → t.exhausted k = true
  errorLog : (∀ k, t.exhausted k = s.exhausted k) → t.errorLog = s.errorLog

/-- A copy whose link leaves RUNNING by a cancellation or by the loss of its status ring: CURRENT, it enters
DONE_UNRETIRED with CANCELLED and its bytes_done open; FILLING_AHEAD, it is WAITING again (R102, R149, R155). -/
def Copy.cancelled (c : Copy) : Copy :=
  match c.exec with
  | .current => { c with exec := .doneUnretired, outcome := some .cancelled, bytesDone := none }
  | .fillingAhead => { c with exec := .waiting }
  | _ => c

/-- t is s as link n has left RUNNING with its work cancelled (R102, R121, R143, R144, R149, R155): the copies are
cancelled, the ring indices stand, the link's timers, cursors and gathering are over, its outputs have their restore
levels, an outbound link's lines are discarded, and an inbound link's GATHERING line is sealed, or FREE if it holds
nothing. That a SEND is CANCELLED even where its last byte is sent in this event is log 12 (DEDUCED), that the store
cursor is idle at once log 37 (DESIGN CHOICE). -/
structure State.GivenUp (s : State) (n : LinkId) (t : State) : Prop where
  only : s.OnlyLinks t ∧ ∀ m, m ≠ n → t.unit m = s.unit m
  window : (t.unit n).window = (s.unit n).window.map Copy.cancelled
  ring : (t.unit n).head = (s.unit n).head ∧ (t.unit n).fetched = (s.unit n).fetched ∧ (t.unit n).tail = (s.unit n).tail
  timers : (t.link n).handshakeTimer = none ∧ (t.link n).pulseTimer = none ∧ (t.link n).wait = none ∧
    (t.link n).limitTimer = none
  cursors : (t.link n).sub = .idle ∧ (t.link n).fillCursor = .idle ∧ (t.link n).storeCursor = .idle ∧
    (t.link n).gathering = false
  outputs : (t.link n).ctl0 = (s.link n).restore0.getD (s.link n).ctl0 ∧
    (t.link n).ctl1 = (s.link n).restore1.getD (s.link n).ctl1
  byte : (t.link n).phase = if (s.link n).phase = .strobe then .strobe else .none
  outbound : (s.link n).dir = .outbound → ∀ i, i ∈ (s.link n).lines → (t.line i).state =
    match (s.line i).state with
    | .filling => if s.fillIssued i then .discardPending else .free
    | .draining => if (s.link n).phase = .strobe then .draining else .free
    | .discardPending => .discardPending
    | .storing => .storing
    | _ => .free
  inbound : (s.link n).dir = .inbound → ∀ i, s.gatheringLine n = some i →
    ((s.line i).offset = 0 → (t.line i).state = .free) ∧
    ((s.line i).offset ≠ 0 → (t.line i).state = .sealed ∧ (t.line i).length = (s.line i).offset ∧ (t.line i).last = true)

/-- t is s as the front RECEIVE c of link n has become CURRENT with fault_stops set and FAULT# low: its latch is cleared
and its gathering started, and it has failed with LINK_FAULT at once, its bytes_done open until its list is empty; the
link is HOLDING (R78, R106, R117, R120, R142). -/
structure State.FaultStopped (s : State) (n : LinkId) (c : Copy) (t : State) : Prop where
  only : s.OnlyLinks t
  hold : (t.link n).state = .holding ∧ (t.link n).holdCause = some .error ∧ (t.link n).heldCopy = some c.slot
  receive : (t.link n).sub = .idle ∧ (t.link n).attnLatch = false ∧ (t.link n).gathering = false ∧
    (t.link n).endCause = .error ∧ (t.link n).gathered = 0 ∧ (t.link n).breakPos = none
  counted : (t.link n).descFailed = addCounter (s.link n).descFailed 1 ∧
    (t.link n).linkTimeouts = (s.link n).linkTimeouts
  copy : (t.unit n).copy c.slot = some { c with
    exec := .failed, outcome := some .linkFault, detail := .absent, bytesDone := none }

/-- t is s as the store of line i of link n has failed with outcome o: the line is FREE, the break position stands at
the line or before it, and a MEMORY event is logged; the CURRENT RECEIVE of a RUNNING link has failed with o, and the
link is HOLDING (R50, R118, R142). The SEALED lines discarded with it lie behind it (R144). -/
structure State.StoreFailed (s : State) (n : LinkId) (i : LineId) (o : Code) (t : State) : Prop where
  only : s.OnlyLinks t ∧ (t.line i).state = .free
  broken : ∃ b, (t.link n).breakPos = some b ∧ b ≤ (s.line i).startOffset ∧ ∀ a, (s.link n).breakPos = some a → b ≤ a
  first : (∀ j, j ∈ (s.link n).lines → ((s.line j).state = .gathering ∨ (s.line j).state = .sealed) →
      (s.line i).startOffset ≤ (s.line j).startOffset) →
    (t.link n).breakPos = some (match (s.link n).breakPos with
      | some a => min a (s.line i).startOffset
      | none => (s.line i).startOffset)
  logged : t.errorLog = s.errorLog.after {
    cls := .memory, code := o, source := .link n, tag := ((s.unit n).copy (s.line i).descSlot).map Copy.tag,
    address := some (s.line i).address, detail := none }
  receive : ∀ c, (s.unit n).current = some c → (s.link n).state = .running →
    (t.link n).state = .holding ∧ (t.link n).holdCause = some .error ∧ (t.link n).heldCopy = some c.slot ∧
    (t.link n).gathering = false ∧ (t.link n).descFailed = addCounter (s.link n).descFailed 1 ∧
    ∃ x, (t.unit n).copy c.slot = some x ∧ x.exec = .failed ∧ x.outcome = some o

/-- The part has halted from s with a cause: its FATAL event is logged without a notice, no RESULT stands, the links
keep their states and drop their offers, and the status rings keep everything but their timers (R139, R161, R198). -/
structure State.HaltedFrom (s : State) (cause : HaltCause) (e : ErrorEvent) (t : State) : Prop where
  part : t.partState = .halted ∧ t.haltCause = cause ∧ t.startAddr = s.startAddr
  logged : t.errorLog = s.errorLog.after e ∧ t.notices = [] ∧ t.recordsDiscarded = s.recordsDiscarded
  control : t.control = { s.control with resultOffer := none }
  links : ∀ n, (t.link n).state = (s.link n).state ∧ (t.link n).offers = []
  rings : ∀ r, t.ring r = { s.ring r with modTimer := none }
  idents : ∀ k i, t.ident k i = s.ident k i

/-- A tag or slot as R182 has it: its timer runs exactly while it is BUSY, and only then has it a route. -/
def Ident.ok (x : Ident) : Prop := (x.timer.isSome ↔ x.state = .busy) ∧ (x.route.isSome → x.state = .busy)

/-- All tags, or all slots, are STALE. -/
def State.allStale (s : State) (k : BusKind) : Prop := ∀ t, (s.ident k t).state = .stale

/-- The part as a whole: the start address is 64-byte aligned (R194); the start record read stands exactly in STARTING
(R197); a halt cause is shown exactly in HALTED (R194, R198); the settle wait runs exactly in RESETTING, and only while
a tag or slot is BUSY (R199); RESET# holds the part DORMANT (R200); tags and slots are as R182 has them, at most 6 of
each BUSY with class C (R188), and the exhaustion flags say that all are STALE (R187); no pending list holds more than 8
records (R128). -/
structure State.PartInv (s : State) : Prop where
  startAligned : s.startAddr.toNat % 64 = 0
  startRead : s.startRead.isSome ↔ s.partState = .starting
  haltCause : s.haltCause ≠ .none ↔ s.partState = .halted
  settleTimer : s.settleTimer.isSome ↔ s.partState = .resetting
  settling : s.partState = .resetting → s.anyBusy = true
  resetHeld : s.resetHeld = true → s.partState = .dormant
  idents : ∀ k t, (s.ident k t).ok
  classC : ∀ k, s.busyC k ≤ Config.classCLimit
  exhausted : ∀ k, s.exhausted k = true ↔ s.allStale k
  pendingLists : ∀ r, (s.ring r).pending.length ≤ Config.pendingSize

/-- The index of the slot i slots behind head. -/
def RingUnit.slotAt (u : RingUnit) (i : Nat) : Nat := (u.head + i) % u.size

/-- A bound ring unit: its size is one of R1's, its indices lie below it (R1), its window holds at most 4 copies, one
for each slot from head on (R10), at most one of them is CURRENT, and one that has started stands behind copies in
DONE_UNRETIRED only (R12). -/
structure RingUnit.BoundInv (u : RingUnit) : Prop where
  size : powerOfTwoIn 8 1024 u.size = true
  indices : u.head < u.size ∧ u.fetched < u.size ∧ u.tail < u.size
  windowSize : u.window.length ≤ Config.windowSize
  slots : u.window.map (·.slot) = (List.range u.window.length).map u.slotAt
  oneCurrent : (u.window.filter fun c => c.exec = .current).length ≤ 1
  started : u.window.Pairwise fun a b => b.unstarted = true ∨ a.exec = .doneUnretired

/-- The ring units and the states of their links: a ring unit is BOUND exactly while its link is neither UNCONFIGURED
nor STOPPED (R1, R3), and an UNBOUND one has its reset values (R1); a cancellation's snapshot is an index of the ring
(R155); before the part runs every link is UNCONFIGURED (R65, R199). -/
structure State.UnitInv (s : State) : Prop where
  bound : ∀ n, (s.unit n).bound = true ↔ (s.link n).state ≠ .unconfigured ∧ (s.link n).state ≠ .stopped
  unbound : ∀ n, (s.unit n).bound = false → s.unit n = RingUnit.reset
  units : ∀ n, (s.unit n).bound = true → (s.unit n).BoundInv
  snapshots : ∀ n x, (s.unit n).bound = true → (s.link n).snapshot = some x → x < (s.unit n).size
  idle : s.partState = .dormant ∨ s.partState = .starting → ∀ n, (s.link n).state = .unconfigured

/-- The link for which a route reads descriptors. -/
def Route.fetchesFor : Route → Option LinkId
  | .descriptor n _ _ => some n
  | .reread n _ => some n
  | _ => none

/-- The descriptor reads under way: a link has at most one, and its ring unit knows of it (R1, R6). While the part runs,
a descriptor fetch reads the one or two slots behind the window, and the fetched position stands behind them; without
one it stands behind the window (R2, R7, R10). -/
structure State.FetchInv (s : State) : Prop where
  outstanding : ∀ t r n, (s.readTag t).route = some r → r.fetchesFor = some n → (s.unit n).fetchOutstanding = true
  one : ∀ t u r q n, (s.readTag t).route = some r → (s.readTag u).route = some q → r.fetchesFor = some n →
    q.fetchesFor = some n → t = u
  fetching : s.partState = .running → ∀ t n slot count, (s.readTag t).route = some (.descriptor n slot count) →
    slot = (s.unit n).slotAt (s.unit n).window.length ∧
    (s.unit n).fetched = (s.unit n).slotAt ((s.unit n).window.length + count) ∧
    (count = 1 ∨ count = 2 ∧ slot % 2 = 0) ∧ (s.unit n).window.length + count ≤ Config.windowSize
  fetched : s.partState = .running → ∀ n, (s.unit n).bound = true →
    (∀ t slot count, (s.readTag t).route ≠ some (.descriptor n slot count)) →
    (s.unit n).fetched = (s.unit n).slotAt (s.unit n).window.length

/-- The states that the lines of a link of a present direction may be in (R52). -/
def Direction.lineStates : Direction → List LineState
  | .outbound => [.filling, .ready, .draining, .failed, .discardPending]
  | .inbound => [.gathering, .sealed, .storing]

/-- The staging lines: a FREE line has no owner and stands in no list, any other stands once, in its owner's list only
(R38); a link owns at most its ceiling, its lines are of its present direction only (R52), and one that is UNCONFIGURED
or STOPPED owns none (R65, R67). A DRAINING line stands at the front of its list and a GATHERING line at its back, so
that a list holds at most one of either (R44, R47). The FREE lines cover the shortfalls of the four links together
(R55). -/
structure State.PoolInv (s : State) : Prop where
  free : ∀ i, (s.line i).state = .free ↔ (s.line i).owner = none
  lists : ∀ n i, i ∈ (s.link n).lines ↔ (s.line i).owner = some n
  once : ∀ n, (s.link n).lines.Nodup
  ceiling : ∀ n, s.owned n ≤ (s.link n).config.ceiling
  direction : ∀ n i, i ∈ (s.link n).lines → (s.line i).state ∈ (s.link n).dir.lineStates
  draining : ∀ n i, i ∈ (s.link n).lines → (s.line i).state = .draining → (s.link n).lines.head? = some i
  gathering : ∀ n i, i ∈ (s.link n).lines → (s.line i).state = .gathering → (s.link n).lines.getLast? = some i
  idle : ∀ n, (s.link n).state = .unconfigured ∨ (s.link n).state = .stopped → (s.link n).lines = []
  covered : (allLinks.map fun n => (s.link n).config.reserve - (s.link n).lines.length).sum ≤ s.freeLines.length

/-- t is s as a status write of Sn for slot k has failed with outcome o. The ring is FAILED with an empty list, its
timer stopped and its message cleared; the failed record, the pending ones and the standing offers are counted, and a
MEMORY event is logged; but for that only what an event inside a link may change does (R132, R140). Where no link
reports to the ring, nothing else changes, and a link that reports to another does not. Each link that reports to it has
its offers discarded, and in HOLDING or HELD its hold cause is STATUS_LOST then. Where one link alone does: RUNNING, it
enters HOLDING with STATUS_LOST and its work cancelled, and if it is settled, its STATUS_LOST record is discarded too
and it is HELD; HOLDING or HELD, its hold cause becomes STATUS_LOST, and the discard of a held copy's record ends
HOLDING (R149). -/
def State.RingFails (s : State) (n : LinkId) (k : Nat) (o : Code) (t : State) : Prop :=
  let failed := { s.ring (.s n) with
    state := .failed, pending := [], writeOutstanding := none, modTimer := none, msgDue := false }
  let lost := 1 + (s.ring (.s n)).pending.length
  let f := ((s.countDiscardedRecords lost).modRing (.s n) fun _ => failed).logEvent {
    cls := .memory, code := o, source := .ring (.s n), tag := none,
    address := some ((s.ring (.s n)).base + BitVec.ofNat 48 (16 * k)), detail := none }
  (t.partState = .running ∧ t.ring (.s n) = failed ∧ f.OnlyLinks t) ∧
  (s.PoolInv → ∀ m, (s.unit m).statusRing ≠ some n → t.link m = s.link m ∧ t.unit m = s.unit m) ∧
  (∀ m, (s.unit m).statusRing = some n → (s.link m).offers ≠ [] → (s.link m).cancellation = .none →
    ((s.link m).state = .running ∨ (s.link m).state = .holding ∨ (s.link m).state = .held) →
    ((t.link m).state = .holding ∨ (t.link m).state = .held) ∧ (t.link m).holdCause = some .statusLost ∧
    (t.link m).offers = [] ∧
    (t.link m).heldCopy = if (s.link m).state = .running then none else (s.link m).heldCopy) ∧
  ((∀ m, (s.unit m).statusRing ≠ some n) → t = f) ∧
  ∀ m, (∀ j, (s.unit j).statusRing = some n ↔ j = m) →
    let offers := (s.link m).offers
    (offers = [] → t = f) ∧
    ((s.link m).state = .running → offers ≠ [] →
      (∃ u, t = State.serveLink m u ∧ f.GivenUp m u ∧
        (u.link m).state = .holding ∧ (u.link m).holdCause = some .statusLost ∧ (u.link m).heldCopy = none ∧
        (u.link m).holdRecord = .owed ∧ (u.link m).offers = [] ∧ u.errorLog = f.errorLog ∧
        u.recordsDiscarded = addCounter s.recordsDiscarded (lost + offers.length)) ∧
      ((s.link m).lines = [] → (s.link m).phase = .none → (s.link m).cancellation = .none →
        ((s.unit m).window = [] ∨ ∃ c cs, (s.unit m).window = c :: cs ∧ c.exec = .doneUnretired ∧ c.quiet = false) →
        (t.link m).state = .held ∧ (t.link m).holdCause = some .statusLost ∧ (t.link m).heldCopy = none ∧
        (t.link m).offers = [] ∧ (t.unit m).head = (s.unit m).head ∧
        t.recordsDiscarded = addCounter s.recordsDiscarded (lost + offers.length + 1))) ∧
    (((s.link m).state = .holding ∨ (s.link m).state = .held ∧ (s.link m).cancellation ≠ .flush) → offers ≠ [] →
      ∃ u, t = State.serveLink m u ∧ f.OnlyLinks u ∧
        u.link m = { s.link m with
          offers := [], holdCause := some .statusLost, holdRecord := (u.link m).holdRecord
          attnOwed := (u.link m).attnOwed } ∧
        u.units = s.units ∧ u.lines = s.lines ∧
        u.recordsDiscarded = addCounter s.recordsDiscarded (lost + offers.length)) ∧
    ∀ x c cs, (s.link m).state = .holding → offers = [x] → x.purpose = .holdRecord →
      (s.link m).holdRecord = .offered → (s.link m).lines = [] → (s.link m).phase = .none →
      (s.unit m).window = c :: cs → c.exec = .failed → (s.link m).heldCopy = some c.slot →
      (t.link m).state = .held ∧ (t.link m).holdCause = some .statusLost ∧ (t.link m).heldCopy = some c.slot ∧
      (t.unit m).head = (s.unit m).head ∧ t.recordsDiscarded = addCounter s.recordsDiscarded (lost + 1)

/-- The indices of a status ring lie below its size, which is one of R123's, or the ring has none. -/
def StatusRing.IndexInv (x : StatusRing) : Prop :=
  (x.state = .active → x.size ≠ 0) ∧
  (x.size ≠ 0 → powerOfTwoIn 16 1024 x.size = true ∧ x.tail < x.size ∧ x.releasedHead < x.size)

/-- The status rings and the control ring: every index lies below its ring's size (R123, R161), and while the part runs
both SC and the control ring are there (R197). -/
structure State.RingInv (s : State) : Prop where
  status : ∀ r, (s.ring r).IndexInv
  control : s.control.size ≠ 0 → powerOfTwoIn 8 256 s.control.size = true ∧ s.control.head < s.control.size ∧
    s.control.fetched < s.control.size ∧ s.control.tail < s.control.size
  running : s.partState = .running → s.sc.state = .active ∧ s.control.size ≠ 0

/-- The offers: none stands to a ring that has a place for it, an offer being accepted in the event that makes it or
that frees the place (R128), and outside RUNNING none stands at all (R127, R198, R199). -/
structure State.OfferInv (s : State) : Prop where
  settled : ∀ r, s.hasPlace r = true → s.nextProducer r = none
  dropped : s.partState ≠ .running → s.notices = [] ∧ s.control.resultOffer = none ∧ ∀ n, (s.link n).offers = []

/-- What holds of the part after every event. -/
structure State.Inv (s : State) : Prop where
  part : s.PartInv
  units : s.UnitInv
  fetches : s.FetchInv
  pool : s.PoolInv
  rings : s.RingInv
  offers : s.OfferInv

end Sys2Proof.Machine
end

