-- ==== Sys2Proof/Certificates/Slice0/Obligations.lean ====
section
/-! DEFINITION. The statements for the provers. Where a link goes on in the same event, the next state is given as
State.serveLink of the state that the command itself leaves, and an event that may make offers ends in
State.acceptOffers: LinkEventFrame says what the two may change and when they change nothing, OfferAccepted what an
acceptance does. A premise s.OfferInv, part of the invariant that StepKeepsInv states, says that no offer stands to a
ring with a place. -/

open Sys2Proof Sys2Proof.Machine

/-! ### The machine -/

/-- The model's step (log 8, its choice): the command at the front of the queue runs on the state with the queue's rest,
and on an empty queue the part idles. -/
def Obligations.StepRunsFront : Prop :=
  (∀ (s : State) (c : Instr) (q : List Instr), s.pending = c :: q → step s = exec c (s.withPending q)) ∧
  ∀ s : State, s.pending = [] → step s = .next s

/-- Every command answers a next state in every state, whatever its operands, and leaves the queue as it is. That a
command answers so which names an event that cannot occur in the state is log 5, the model's choice. -/
def Obligations.EveryCommandAnswersNext : Prop :=
  ∀ (i : Instr) (s : State), ∃ t, exec i s = .next t ∧ t.pending = s.pending

/-- The invariant of the part is kept by every step from every state that meets it: the part's own items (R128, R182,
R187, R188, R194, R197 to R200); every index of a transfer ring, a status ring and the control ring below its ring's
size (R1, R123, R161); a window of at most 4 copies, for the slots from head on in ring order, with at most one CURRENT
copy, behind copies in DONE_UNRETIRED only (R10, R12); a FREE line in no list and any other in its owner's list only
(R38); no link above its ceiling, and all its lines of its direction (R52); a DRAINING line in front and a GATHERING one
at the back of a list only, so at most one of either (R44, R47); FREE lines for the shortfalls of all links (R55); no
offer standing to a status ring with a place, and none at all outside RUNNING
(R127, R128). Two of its clauses are the model's: that the exhaustion flags say that all are STALE after a return to
DORMANT too (log 17, DESIGN CHOICE), and that RESETTING shows no halt cause (log 18, DEDUCED). -/
def Obligations.StepKeepsInv : Prop :=
  ∀ s t : State, s.Inv → step s = .next t → t.Inv

/-- The part right after reset meets the invariant. -/
def Obligations.ResetHasInv : Prop := State.reset.Inv

/-- What an event leaves a link to do changes only link engines, ring units, lines, the control processor, the error log
and STATUS_RECORDS_DISCARDED. It changes nothing where the link is at rest or the part is not RUNNING (R65). The
acceptance of what the event offers changes besides these only the pending lists and pointers of the status rings
(R128); it changes nothing where no ring with a place has an offer or the part is not RUNNING, and leaves a link without
an offer, with its ring unit, as it is. -/
def Obligations.LinkEventFrame : Prop :=
  ∀ (s : State) (n : LinkId), s.OnlyLinks (State.serveLink n s) ∧
    (s.AtRest n → State.serveLink n s = s) ∧ (s.partState ≠ .running → State.serveLink n s = s) ∧
    s.OnlyLinks { s.acceptOffers with sc := s.sc, sRings := s.sRings } ∧
    (∀ r, s.acceptOffers.ring r = { s.ring r with
      pending := (s.acceptOffers.ring r).pending, pointer := (s.acceptOffers.ring r).pointer }) ∧
    ((∀ r, s.hasPlace r = true → s.nextProducer r = none) → s.acceptOffers = s) ∧
    (s.partState ≠ .running → s.acceptOffers = s) ∧
    (s.PoolInv → (s.link n).offers = [] → s.acceptOffers.link n = s.link n ∧ s.acceptOffers.unit n = s.unit n)

/-! ### Reset -/

/-- While RESET# is asserted nothing but the levels of the inputs changes, whatever arrives, and the outputs stand at
the UNCONFIGURED levels (R200); that the levels follow the pins meanwhile is the model's choice (log 3). -/
def Obligations.HeldPartIgnores : Prop :=
  ∀ (i : Instr) (s : State), s.resetHeld = true → i ≠ .hardwareReset → i ≠ .resetRelease →
    ∃ t, exec i s = .next t ∧ t = { s with pins := t.pins } ∧ ∀ n, t.portOut n = PortOut.idle

/-- RESET# gives every item its hardware reset value; the lines are FREE with their records cleared, and their data
bytes are whatever they are (R62, R200). -/
def Obligations.HardwareResetSets : Prop :=
  ∀ s : State, ∃ t, exec .hardwareReset s = .next t ∧
    t = { State.reset with
      resetHeld := true, pins := s.pins, lines := t.lines, openValues := t.openValues, pending := s.pending } ∧
    (∀ i, t.line i = Line.freeWith (t.line i).data) ∧ ∀ n, t.portOut n = PortOut.idle

/-- The release of RESET# leaves every item as it is, and right after hardware reset the part is then DORMANT, STATE
reads 0, the error log is absent and every tag and slot FREE (R200). -/
def Obligations.ResetReleased : Prop :=
  ∀ s : State, exec .resetRelease s = .next { s with resetHeld := false } ∧
    ∀ t u, exec .hardwareReset s = .next t → exec .resetRelease t = .next u →
      u.partState = .dormant ∧ u.stateRegister = 0 ∧ u.errorLog = ErrorLog.reset ∧
      (∀ k i, u.ident k i = Ident.reset) ∧ ∀ n, (u.link n).state = .unconfigured ∧ (u.unit n).bound = false

/-- A write of SOFT_RESET enters RESETTING from every other part state: with a tag or slot BUSY the settle wait runs,
every block has dropped its work, and the tags, the start address and the error log stand (R61, R85, R199). In RESETTING
it has no effect (R195). That RESETTING shows no halt cause is the model's (log 18, DEDUCED). -/
def Obligations.SoftResetWaits : Prop :=
  ∀ (s : State) (w : Word), s.resetHeld = false → w.getLsbD 1 = true →
    (s.partState = .resetting → exec (.softReset w) s = .next s) ∧
    (s.partState ≠ .resetting → s.anyBusy = true → ∃ t, exec (.softReset w) s = .next t ∧
      t.partState = .resetting ∧ t.haltCause = .none ∧ t.settleTimer = some 10 ∧ t.readTags = s.readTags ∧
      t.writeSlots = s.writeSlots ∧ t.startAddr = s.startAddr ∧ t.errorLog = s.errorLog ∧ t.notices = [] ∧
      t.control = { s.control with resultOffer := none } ∧
      (∀ n, (t.link n).state = (s.link n).state ∧ (t.link n).offers = [] ∧ (t.link n).fillCursor = .idle ∧
        (t.link n).storeCursor = .idle ∧ (t.link n).turnTimer = none ∧ (t.link n).handshakeTimer = none ∧
        (t.link n).pulseTimer = none ∧ (t.link n).limitTimer = none ∧ (t.unit n).window = (s.unit n).window) ∧
      ∀ i, (t.line i).state ≠ .filling ∧ (t.line i).state ≠ .ready ∧ (t.line i).state ≠ .failed ∧
        (t.line i).state ≠ .gathering ∧ (t.line i).state ≠ .sealed)

/-- The settle wait ends in DORMANT, when its limit runs out, in the event of the SOFT_RESET itself where nothing is
BUSY, and in the memory end or the timeout that leaves nothing BUSY: every block takes its reset value, and what R199
keeps is kept (R192, R199). An end in RESETTING frees its tag or slot and logs nothing. A timeout leaves it STALE
and is logged with class BUS, with TAGS_EXHAUSTED where it was the last of its kind, in either order (log 7); its
requester logs nothing (R185, R187, R192). While another tag or slot is BUSY the part stays in RESETTING, with its
settle timer as it was. -/
def Obligations.SettleEndsInDormant : Prop :=
  ∀ s : State, s.resetHeld = false →
    (s.partState = .resetting → ∃ t, exec .settleWaitEnd s = .next t ∧ s.DormantFrom t) ∧
    (∀ w : Word, w.getLsbD 1 = true → s.partState ≠ .resetting → s.anyBusy = false →
      ∃ t, exec (.softReset w) s = .next t ∧ s.DormantFrom t) ∧
    ∀ (i : Instr) (k : BusKind) (j : BusNo) (timeout : Bool) (lv : Levels), s.partState = .resetting →
      memoryEnd i = some (k, j, timeout, lv) → (s.ident k j).state = .busy →
      (∀ l, (s.ident k j).route = some (.fill l) → (s.line l).state ≠ .filling) →
      let settles (f : State) : Prop := ∃ t, exec i s = .next t ∧ (f.anyBusy = false → f.DormantFrom t) ∧
        (f.anyBusy = true → t.partState = .resetting ∧ t.haltCause = s.haltCause ∧ t.settleTimer = s.settleTimer ∧
          t.readTags = f.readTags ∧ t.writeSlots = f.writeSlots ∧ t.errorLog = f.errorLog ∧ t.notices = s.notices ∧
          t.startAddr = s.startAddr ∧ t.lateResponses = s.lateResponses)
      let detail (number : Nat) : Option Word :=
        some (BitVec.ofNat 32 (number + match k with | .read => 0 | .write => 256))
      let report (t : State) : State := t.logEvent { cls := .bus, code := .memoryTimeout, source := .bus, tag := none,
                                                     address := some (s.ident k j).address, detail := detail j }
      let exhausted (t : State) : State := (t.setExhausted k true).logEvent {
        cls := .bus, code := .tagsExhausted, source := .bus, tag := none, address := none, detail := detail 0 }
      let stale := (s.sense lv).modIdent k j fun x =>
        { x with state := .stale, route := none, timer := none, data := [] }
      let last := ∀ m, m ≠ j → (s.ident k m).state = .stale
      (timeout = false → settles (s.freed k j lv)) ∧
      (timeout = true → s.PartInv → (¬last → settles (report stale)) ∧
        (last → settles (exhausted (report stale)) ∨ settles (report (exhausted stale))))

/-! ### The register window -/

/-- A write to CONTROL (R195). With SOFT_RESET set it enters RESETTING from every other part state, whatever RUN is: the
settle wait runs where a tag or slot is BUSY and ends in the same event where none is (R199). In RESETTING it has no
effect. With SOFT_RESET clear and RUN set it enters STARTING from DORMANT and offers the start record read at the start
address; in every other part state RUN has no effect. With both clear nothing happens. -/
def Obligations.ControlWritten : Prop :=
  ∀ (s : State) (w : Word), s.resetHeld = false →
    (∀ t, exec (.run w) s = .next t ↔ exec (.registerWrite 0x04 4 w) s = .next t) ∧
    (∀ t, exec (.softReset w) s = .next t ↔ exec (.registerWrite 0x04 4 w) s = .next t) ∧
    (w.getLsbD 1 = true → s.partState ≠ .resetting → ∃ t, exec (.softReset w) s = .next t ∧
      (s.anyBusy = true → t.partState = .resetting ∧ t.settleTimer = some 10) ∧
      (s.anyBusy = false → s.DormantFrom t)) ∧
    (w.getLsbD 1 = true → s.partState = .resetting → exec (.softReset w) s = .next s) ∧
    (w.getLsbD 1 = false → w.getLsbD 0 = true → s.partState = .dormant →
      exec (.run w) s = .next { s with partState := .starting, startRead := some s.startAddr }) ∧
    (w.getLsbD 1 = false → w.getLsbD 0 = true → s.partState ≠ .dormant → s.OfferInv → exec (.run w) s = .next s) ∧
    (w.getLsbD 1 = false → w.getLsbD 0 = false → s.OfferInv → exec (.run w) s = .next s)

/-- START_ADDR_LO sets address bits 6 to 31 and START_ADDR_HI bits 32 to 47, in every part state; bits 0 to 5 are 0, and
nothing else changes (R194). -/
def Obligations.StartAddressWrites : Prop :=
  ∀ (s : State) (w : Word), s.resetHeld = false → s.OfferInv → ∃ t u : State,
    exec (.registerWrite 0x0C 4 w) s = .next t ∧ exec (.registerWrite 0x10 4 w) s = .next u ∧
    t = { s with startAddr := t.startAddr } ∧ u = { s with startAddr := u.startAddr } ∧
    ∀ j, j < 48 →
      t.startAddr.getLsbD j = (if j < 6 then false else if j < 32 then w.getLsbD j else s.startAddr.getLsbD j) ∧
      u.startAddr.getLsbD j = (if j < 32 then s.startAddr.getLsbD j else w.getLsbD (j - 32))

/-- Ignored writes: an access that is not 32 bits wide, one at IDENT, STATE, 1Ch or an unaligned offset, a CONTROL write
with both bits clear, and RING_NOTIFY and STATUS_RELEASE writes outside RUNNING (R194 to R196). -/
def Obligations.IgnoredWrites : Prop :=
  ∀ (s : State) (offset : BitVec 5) (bytes : Nat) (w : Word), s.resetHeld = false → s.OfferInv →
    (bytes ≠ 4 ∨ (offset ≠ 0x04 ∧ offset ≠ 0x0C ∧ offset ≠ 0x10 ∧ offset ≠ 0x14 ∧ offset ≠ 0x18) ∨
      (offset = 0x04 ∧ w.getLsbD 0 = false ∧ w.getLsbD 1 = false) ∨
      ((offset = 0x14 ∨ offset = 0x18) ∧ s.partState ≠ .running)) →
    exec (.registerWrite offset bytes w) s = .next s

/-- The fields of STATE, and what the other registers read; an access that is not 32 bits wide or not 32-bit aligned
reads 0, and so does every one while RESET# is asserted (R194). -/
def Obligations.ReadableRegisters : Prop :=
  ∀ s : State, s.stateRegister.toNat % 8 = s.partState.value ∧ s.stateRegister.toNat / 8 % 2 = 0 ∧
    s.stateRegister.toNat / 16 % 16 = s.haltCause.value ∧
    s.stateRegister.toNat / 256 % 16 = s.staleCount .read ∧
    s.stateRegister.toNat / 4096 = s.staleCount .write ∧
    (∀ o b, b ≠ 4 ∨ o.toNat % 4 ≠ 0 ∨ s.resetHeld = true → s.readRegister o b = 0) ∧
    (s.resetHeld = false → s.readRegister 0x00 4 = 0x01040D3A ∧ s.readRegister 0x08 4 = s.stateRegister ∧
      (s.readRegister 0x0C 4).toNat = s.startAddr.toNat % 2 ^ 32 ∧
      (s.readRegister 0x10 4).toNat = s.startAddr.toNat / 2 ^ 32 ∧
      s.readRegister 0x04 4 = 0 ∧ s.readRegister 0x14 4 = 0 ∧ s.readRegister 0x18 4 = 0 ∧ s.readRegister 0x1C 4 = 0)

/-- A transfer ring notify, case by case in the order of R4: a refused one changes nothing but the error log, an
accepted one sets the tail, and moves no other item but the snapshot of a QUIESCING link, back to a new tail that lies
before it in ring order from head (R156). A logged event may make
an ERROR_NOTICE, which SC accepts in the same event (R128, R159). Slots it adds may be
fetched at once (R6), and one that gives the posted count the ring had changes no index. -/
def Obligations.TransferNotify : Prop :=
  ∀ (s : State) (w : Word) (n : LinkId), s.resetHeld = false → s.partState = .running →
    (w.extractLsb' 24 4).toNat = (n : Nat) →
    let u := s.unit n
    let v := (w.extractLsb' 0 16).toNat
    let event (code : Code) : ErrorEvent :=
      { cls := .register, code := code, source := .ringUnit n, tag := none, address := none,
        detail := some (BitVec.ofNat 32 v) }
    let retracts := (v + u.size - u.head) % u.size < (u.fetched + u.size - u.head) % u.size
    (u.bound = false → exec (.transferRingNotify w) s = .next (s.logEvent (event .notifyUnbound)).acceptOffers) ∧
    (u.bound = true → u.size ≤ v →
      exec (.transferRingNotify w) s = .next (s.logEvent (event .notifyRange)).acceptOffers) ∧
    (u.bound = true → v < u.size → retracts →
      exec (.transferRingNotify w) s = .next (s.logEvent (event .notifyRetract)).acceptOffers) ∧
    (u.bound = true → v < u.size → ¬retracts → s.OfferInv → ∃ t, exec (.transferRingNotify w) s = .next t ∧
      t = { s with units := t.units, links := t.links } ∧ t.unit n = { u with tail := v } ∧
      (∀ m, m ≠ n → t.unit m = s.unit m ∧ t.link m = s.link m) ∧
      t.link n = { s.link n with snapshot := (t.link n).snapshot } ∧
      ((s.link n).state ≠ .quiescing → t.link n = s.link n) ∧
      ((s.link n).snapshot = none → t.link n = s.link n) ∧
      (∀ x, (s.link n).state = .quiescing → (s.link n).snapshot = some x → (t.link n).snapshot = some
        (if (v + u.size - u.head) % u.size < (x + u.size - u.head) % u.size then v else x)) ∧
      (u.head < u.size → u.tail < u.size → (t.unit n).posted = u.posted → t.unit n = u) ∧
      ((s.link n).state = .running → u.fetchOutstanding = false → u.fetchedCount < 4 →
        u.fetchedCount < (t.unit n).posted →
        (∀ x f, x ∈ u.window → x.verdict ≠ .unreadable f) → t.fetchWanted n = true))

/-- A control ring notify, case by case in the order of R162; an accepted one that posts a command to an IDLE processor
offers its fetch in the same event (R163). -/
def Obligations.ControlNotify : Prop :=
  ∀ (s : State) (w : Word), s.resetHeld = false → s.partState = .running → (w.extractLsb' 24 4).toNat = 8 →
    let c := s.control
    let v := (w.extractLsb' 0 16).toNat
    let event (code : Code) : ErrorEvent :=
      { cls := .register, code := code, source := .control, tag := none, address := none,
        detail := some (BitVec.ofNat 32 v) }
    let retracts := (v + c.size - c.head) % c.size < (c.fetched + c.size - c.head) % c.size
    let posts := c.state = .idle ∧ 0 < (v + c.size - c.head) % c.size
    (c.size ≤ v → exec (.controlRingNotify w) s = .next (s.logEvent (event .notifyRange)).acceptOffers) ∧
    (v < c.size → retracts → exec (.controlRingNotify w) s = .next (s.logEvent (event .notifyRetract)).acceptOffers) ∧
    (v < c.size → ¬retracts → ¬posts → s.OfferInv →
      exec (.controlRingNotify w) s = .next { s with control := { c with tail := v } }) ∧
    (v < c.size → ¬retracts → posts → s.OfferInv → exec (.controlRingNotify w) s = .next { s with control :=
      { c with tail := v, state := .fetching, fetched := (c.fetched + 1) % c.size } })

/-- A write to RING_NOTIFY or STATUS_RELEASE (R196). Outside RUNNING it has no effect. In RUNNING bits 24 to 27 say
which block takes the value in bits 0 to 15; a selector that names no ring is logged with source REGISTER and the
written word, and changes nothing else. -/
def Obligations.SelectorsRouted : Prop :=
  ∀ (s : State) (w : Word), s.resetHeld = false →
    let v := (w.extractLsb' 0 16).toNat
    let selector := (w.extractLsb' 24 4).toNat
    let event (code : Code) : ErrorEvent :=
      { cls := .register, code := code, source := .register, tag := none, address := none, detail := some w }
    (∀ t, exec (.registerWrite 0x14 4 w) s = .next t ↔ exec (.transferRingNotify w) s = .next t) ∧
    (∀ t, exec (.registerWrite 0x18 4 w) s = .next t ↔ exec (.release w) s = .next t) ∧
    (s.partState ≠ .running → exec (.transferRingNotify w) s = .next s ∧ exec (.controlRingNotify w) s = .next s ∧
      exec (.notifyBadSelector w) s = .next s ∧ exec (.release w) s = .next s ∧
      exec (.releaseBadSelector w) s = .next s) ∧
    (∀ n : LinkId, s.partState = .running → selector = n →
      exec (.transferRingNotify w) s = .next (s.notify n v).acceptOffers ∧
        exec (.release w) s = .next (s.release (.s n) v).acceptOffers) ∧
    (s.partState = .running → selector = 8 →
      exec (.controlRingNotify w) s = .next (s.notifyControl v).acceptOffers ∧
        exec (.release w) s = .next (s.release .sc v).acceptOffers) ∧
    (s.partState = .running → 4 ≤ selector → selector ≠ 8 →
      exec (.notifyBadSelector w) s = .next (s.logEvent (event .notifyRange)).acceptOffers ∧
      exec (.releaseBadSelector w) s = .next (s.logEvent (event .releaseRange)).acceptOffers)

/-- A release: refused ones change nothing but the error log; one that is taken moves the released head, lowers the
unreleased count, and acts on the interrupt state of an ACTIVE ring with messages (R133, R135). -/
def Obligations.ReleaseTaken : Prop :=
  ∀ (s : State) (w : Word) (r : RingId), s.resetHeld = false → s.partState = .running →
    ((∃ n : LinkId, r = .s n ∧ (w.extractLsb' 24 4).toNat = (n : Nat)) ∨
      (r = .sc ∧ (w.extractLsb' 24 4).toNat = 8)) →
    let x := s.ring r
    let h := (w.extractLsb' 0 16).toNat
    let d := (h + x.size - x.releasedHead) % x.size
    let refused := x.state = .absent ∨ x.size ≤ h ∨ (x.tail + x.size - x.releasedHead) % x.size < d
    (refused → exec (.release w) s = .next (s.logEvent
      { cls := .register, code := .releaseRange, source := .ring r, tag := none, address := none,
        detail := some (BitVec.ofNat 32 h) }).acceptOffers) ∧
    (¬refused → s.OfferInv → ∃ t, exec (.release w) s = .next t ∧ t = { s with sc := t.sc, sRings := t.sRings } ∧
      (∀ r', r' ≠ r → t.ring r' = s.ring r') ∧
      let y := { x with releasedHead := h, unreleased := x.unreleased - min d x.unreleased }
      ((x.state = .failed ∨ x.msgAddr = 0) → t.ring r = y) ∧
      (x.state = .active → x.msgAddr ≠ 0 → 0 < y.unreleased →
        t.ring r = { y with msgDue := true, intState := .signalled, modTimer := none, written := 0 }) ∧
      (x.state = .active → x.msgAddr ≠ 0 → y.unreleased = 0 →
        t.ring r = { y with intState := .armed, modTimer := none, written := 0 }))

/-! ### The error log -/

/-- An error event taken by the log: the first one fills it, sets the latch and in RUNNING makes the ERROR_NOTICE; a
later one only raises the further-error count, up to 255, and sets its class's repeat flag. Each sets the event-since-
capture flag (R158, R159). That a notice made while an older one still stands waits behind it is the model's (log 16,
DEDUCED). -/
def Obligations.ErrorLogTakes : Prop :=
  ∀ (s : State) (e : ErrorEvent),
    s.logEvent e = { s with errorLog := (s.logEvent e).errorLog, notices := (s.logEvent e).notices } ∧
    (s.errorLog.first = none →
      (s.logEvent e).errorLog = { s.errorLog with first := some e, noticeLatch := true, sinceCapture := true } ∧
      (s.partState = .running → (s.logEvent e).notices = s.notices ++
        [{ kind := .event, source := .control, tag := 0, outcome := .errorNotice, bytesDone := 0,
           ringHead := s.control.head, snapshot := Snapshot.low, holdCause := none,
           detail := .errorClass e.cls }]) ∧
      (s.partState ≠ .running → (s.logEvent e).notices = s.notices)) ∧
    (s.errorLog.first ≠ none → (s.logEvent e).errorLog.first = s.errorLog.first ∧
      (s.logEvent e).notices = s.notices ∧ (s.logEvent e).errorLog.noticeLatch = s.errorLog.noticeLatch ∧
      (s.logEvent e).errorLog.sinceCapture = true ∧
      (s.logEvent e).errorLog.further = (if s.errorLog.further < 255 then s.errorLog.further + 1 else 255) ∧
      ∀ j : Fin 7, (s.logEvent e).errorLog.repeats[j] = (s.errorLog.repeats[j] || decide (j = e.cls.index)))

/-! ### Start and halt -/

/-- A start record that passes the checks of R197 puts the part in RUNNING, with the control ring and SC from the
record; nothing else changes but the tag, which is FREE again (R124, R161, R197). -/
def Obligations.StartRecordTaken : Prop :=
  ∀ (s : State) (tag : BusNo) (v : Vector Byte 64) (lv : Levels) (j k : Nat),
    s.Holds .read tag .startRecord → s.partState = .starting →
    leField v 0 1 = 1 → leField v 4 2 = 2 ^ j → 3 ≤ j → j ≤ 8 →
    leField v 8 8 % 64 = 0 → leField v 8 8 + 32 * 2 ^ j ≤ 2 ^ 48 →
    leField v 6 2 = 2 ^ k → 4 ≤ k → k ≤ 10 → leField v 16 8 % 64 = 0 → leField v 16 8 + 16 * 2 ^ k ≤ 2 ^ 48 →
    leField v 24 8 % 4 = 0 → leField v 24 8 < 2 ^ 48 → 1 ≤ leField v 36 1 → leField v 36 1 ≤ 32 → s.OfferInv →
    exec (.startRecordReadEnd tag (.data v) lv) s = .next { s.freed .read tag lv with
      partState := .running, startRead := none,
      control := { Control.reset with base := BitVec.ofNat 48 (leField v 8 8), size := 2 ^ j },
      sc := { StatusRing.reset with
        state := .active, base := BitVec.ofNat 48 (leField v 16 8), size := 2 ^ k,
        msgAddr := BitVec.ofNat 48 (leField v 24 8), msgData := BitVec.ofNat 32 (leField v 32 4),
        modCount := leField v 36 1, modDelay := leField v 37 1 } }

/-- A start record read that fails or times out, or a record with an invalid field, halts the part and logs a FATAL
event; no notice is offered. The first field that fails, in the order of R197, gives the detail. A timeout is also
reported by the bus master, in either order (R159). That the event's address is the one stored with the tag is the
model's (log 20, DEDUCED; R185, R197, R198). -/
def Obligations.StartRecordRefused : Prop :=
  ∀ (s : State) (tag : BusNo) (lv : Levels), s.Holds .read tag .startRecord → s.partState = .starting →
    (∃ t, exec (.startRecordReadEnd tag .error lv) s = .next t ∧ t.partState = .halted ∧
      t.haltCause = .startReadFailed ∧ t.notices = [] ∧ (t.readTag tag).state = .free ∧
      t.errorLog = s.errorLog.after {
        cls := .fatal, code := .startReadFailed, source := .register, tag := none,
        address := some (s.readTag tag).address, detail := none }) ∧
    (∃ t, exec (.startRecordReadEnd tag .timeout lv) s = .next t ∧ exec (.responseTimeout .read tag lv) s = .next t ∧
      t.partState = .halted ∧ t.haltCause = .startReadFailed ∧ t.notices = [] ∧ (t.readTag tag).state = .stale ∧
      t.errorLog.sinceCapture = true ∧
      (s.errorLog.first ≠ none → t.errorLog.first = s.errorLog.first ∧
        t.errorLog.repeats[ErrorClass.fatal.index] = true ∧ t.errorLog.repeats[ErrorClass.bus.index] = true) ∧
      (s.errorLog.first = none → ∃ e, t.errorLog.first = some e ∧ (e.cls = .fatal ∨ e.cls = .bus))) ∧
    ∀ (v : Vector Byte 64) (off : Nat),
      let format := leField v 0 1 = 1
      let controlSize := ∃ k, 3 ≤ k ∧ k ≤ 8 ∧ leField v 4 2 = 2 ^ k
      let controlBase := leField v 8 8 % 64 = 0 ∧ leField v 8 8 + 32 * leField v 4 2 ≤ 2 ^ 48
      let scSize := ∃ k, 4 ≤ k ∧ k ≤ 10 ∧ leField v 6 2 = 2 ^ k
      let scBase := leField v 16 8 % 64 = 0 ∧ leField v 16 8 + 16 * leField v 6 2 ≤ 2 ^ 48
      let message := leField v 24 8 % 4 = 0 ∧ leField v 24 8 < 2 ^ 48
      let moderation := 1 ≤ leField v 36 1 ∧ leField v 36 1 ≤ 32
      (off = 0 ∧ ¬format ∨ off = 4 ∧ format ∧ ¬controlSize ∨ off = 8 ∧ format ∧ controlSize ∧ ¬controlBase ∨
        off = 6 ∧ format ∧ controlSize ∧ controlBase ∧ ¬scSize ∨
        off = 16 ∧ format ∧ controlSize ∧ controlBase ∧ scSize ∧ ¬scBase ∨
        off = 24 ∧ format ∧ controlSize ∧ controlBase ∧ scSize ∧ scBase ∧ ¬message ∨
        off = 36 ∧ format ∧ controlSize ∧ controlBase ∧ scSize ∧ scBase ∧ message ∧ ¬moderation) →
      ∃ t, exec (.startRecordReadEnd tag (.data v) lv) s = .next t ∧ t.partState = .halted ∧
        t.haltCause = .startInvalid ∧ t.notices = [] ∧
        t.errorLog = s.errorLog.after {
          cls := .fatal, code := .startInvalid, source := .register, tag := none,
          address := some (s.readTag tag).address, detail := some (BitVec.ofNat 32 off) }

/-- A command fetch that ends with ERROR halts the part: the FATAL event is logged without a notice, no RESULT stands,
the links keep their states and drop their offers, and the status rings keep everything but their timers (R139, R161,
R164, R198). -/
def Obligations.CommandFetchHalts : Prop :=
  ∀ (s : State) (tag : BusNo) (lv : Levels), s.Awaits tag →
    ∃ t, exec (.commandFetchFailed tag .error lv) s = .next t ∧ (t.readTag tag).state = .free ∧
      (s.freed .read tag lv).HaltedFrom .controlFetchFailed {
        cls := .fatal, code := .controlFetchFailed, source := .control, tag := none,
        address := some (s.readTag tag).address, detail := none } t

/-! ### Commands of the control ring -/

/-- The RESULT of a command that ends in RUNNING (R126, R166): its ring_head is the position after its slot, and its
snapshot that of the target link for commands 3 to 8 with a target of 0 to 3, else all low. It stands, the processor
OFFERING, until SC has a place for it; where SC has one it is accepted in the event that makes it: it stands at the back
of SC's list, head has moved on, and the processor is IDLE, or FETCHING where more is posted (R128, R163; that the
outcome goes with the copy is log 32, DEDUCED). An ERROR_NOTICE that the same event makes stands beside it, the
acceptances coming at the end of the event (log 4, DEDUCED): SC's pointer gives their order, and with one place left the
other goes on standing (R128). -/
def Obligations.ResultMade : Prop :=
  ∀ (s : State) (c : Vector Byte 32) (o : Code), s.partState = .running → s.control.state = .executing →
    s.control.current = some c → s.control.fetched < s.control.size →
    let result : StatusRecord :=
      { kind := .result, source := .control, tag := BitVec.ofNat 16 (leField c 2 2), outcome := o, bytesDone := 0,
        ringHead := s.control.fetched,
        snapshot := (if h : 3 ≤ leField c 0 1 ∧ leField c 0 1 ≤ 8 ∧ leField c 1 1 < 4
          then s.snapshotOf ⟨leField c 1 1, h.2.2⟩ else Snapshot.low),
        holdCause := none, detail := .commandCode (BitVec.ofNat 8 (leField c 0 1)) }
    let offering : Control := { s.control with
      state := .offering, outcome := some o, write0 := .idle, write1 := .idle, resultOffer := some result }
    let taken (recs : List StatusRecord) (p : Producer) : StatusRing :=
      { s.sc with pending := s.sc.pending ++ recs, pointer := p }
    s.endCommand o = { s with control := offering } ∧ (s.OfferInv →
      ((s.sc.state ≠ .active ∨ 8 ≤ s.sc.pending.length) →
        (s.endCommand o).acceptOffers = { s with control := offering }) ∧
      (s.sc.state = .active → s.sc.pending.length < 8 → (s.endCommand o).acceptOffers =
        { s with control := offering.answered, sc := taken [result] .control }) ∧
      ∀ e : ErrorEvent, s.sc.state = .active → s.errorLog.first = none →
        let logged := s.logEvent e
        let notice := s.noticeFor e.cls
        (s.sc.pending.length < 7 → s.sc.pointer = .control → (logged.endCommand o).acceptOffers = { logged with
          notices := [], control := offering.answered, sc := taken [notice, result] .control }) ∧
        (s.sc.pending.length < 7 → s.sc.pointer ≠ .control → (logged.endCommand o).acceptOffers = { logged with
          notices := [], control := offering.answered, sc := taken [result, notice] .log }) ∧
        (s.sc.pending.length = 7 → s.sc.pointer = .control → (logged.endCommand o).acceptOffers = { logged with
          notices := [], control := offering, sc := taken [notice] .log }) ∧
        (s.sc.pending.length = 7 → s.sc.pointer ≠ .control → (logged.endCommand o).acceptOffers = { logged with
          control := offering.answered, sc := taken [result] .control }))

/-- A command with a code that is not 1 to 10 only gets its RESULT (R165). -/
def Obligations.UnknownCommandAnswered : Prop :=
  ∀ (s : State) (tag : BusNo) (c : Vector Byte 32) (lv : Levels), s.Awaits tag →
    exec (.unknownCommand tag c lv) s = .next ((s.taken tag c lv).endCommand .unknownCommand).acceptOffers

/-- CREATE STATUS RING: an ABSENT ring with fields in range is created as R124 gives; a ring that is not ABSENT, a field
out of range or a target above 3 refuses the command, which then changes nothing but the processor (R124, R165, R168).
-/
def Obligations.StatusRingCreated : Prop :=
  ∀ (s : State) (tag : BusNo) (c : Vector Byte 32) (lv : Levels), s.Awaits tag →
    let ok := (∃ k, 4 ≤ k ∧ k ≤ 10 ∧ leField c 4 2 = 2 ^ k) ∧ leField c 8 8 % 64 = 0 ∧
      leField c 8 8 + 16 * leField c 4 2 ≤ 2 ^ 48 ∧ leField c 16 8 % 4 = 0 ∧ leField c 16 8 < 2 ^ 48 ∧
      1 ≤ leField c 6 1 ∧ leField c 6 1 ≤ 32
    (4 ≤ leField c 1 1 →
      exec (.createStatusRing tag c lv) s = .next ((s.taken tag c lv).endCommand .refusedRange).acceptOffers) ∧
    ∀ n : LinkId, leField c 1 1 = n →
      ((s.ring (.s n)).state ≠ .absent →
        exec (.createStatusRing tag c lv) s = .next ((s.taken tag c lv).endCommand .refusedState).acceptOffers) ∧
      ((s.ring (.s n)).state = .absent → ¬ok →
        exec (.createStatusRing tag c lv) s = .next ((s.taken tag c lv).endCommand .refusedRange).acceptOffers) ∧
      ((s.ring (.s n)).state = .absent → ok →
        exec (.createStatusRing tag c lv) s = .next (((s.taken tag c lv).modRing (.s n) fun _ =>
          { state := .active, base := BitVec.ofNat 48 (leField c 8 8), size := leField c 4 2, tail := 0,
            releasedHead := 0, phase := true, unreleased := 0, pending := [], pointer := .log,
            writeOutstanding := none, intState := .armed, msgAddr := BitVec.ofNat 48 (leField c 16 8),
            msgData := BitVec.ofNat 32 (leField c 24 4), modCount := leField c 6 1, modDelay := leField c 7 1,
            written := 0, modTimer := none, msgDue := false, msgOutstanding := false }).endCommand .ok).acceptOffers)

/-- DELETE STATUS RING: a target above 3, an ABSENT ring and one that a bound ring unit reports to are refused; else the
ring takes its reset values, its pending records are counted as discarded, and no outstanding write leads to it any more
(R124, R140, R165, R169). -/
def Obligations.StatusRingDeleted : Prop :=
  ∀ (s : State) (tag : BusNo) (c : Vector Byte 32) (lv : Levels), s.Awaits tag →
    (4 ≤ leField c 1 1 →
      exec (.deleteStatusRing tag c lv) s = .next ((s.taken tag c lv).endCommand .refusedRange).acceptOffers) ∧
    ∀ n : LinkId, leField c 1 1 = n →
    ((s.ring (.s n)).state = .absent →
      exec (.deleteStatusRing tag c lv) s = .next ((s.taken tag c lv).endCommand .refusedState).acceptOffers) ∧
    ((s.ring (.s n)).state ≠ .absent → (∃ m, (s.unit m).bound = true ∧ (s.unit m).statusRing = some n) →
      exec (.deleteStatusRing tag c lv) s = .next ((s.taken tag c lv).endCommand .refusedInUse).acceptOffers) ∧
    ((s.ring (.s n)).state ≠ .absent → (∀ m, (s.unit m).bound = true → (s.unit m).statusRing ≠ some n) →
      ∃ t : State, exec (.deleteStatusRing tag c lv) s = .next (t.endCommand .ok).acceptOffers ∧
        t.ring (.s n) = StatusRing.reset ∧
        t.recordsDiscarded = addCounter s.recordsDiscarded (s.ring (.s n)).pending.length ∧
        (∀ r, r ≠ .s n → t.ring r = s.ring r) ∧ t.links = s.links ∧ t.units = s.units ∧ t.lines = s.lines ∧
        t.control = (s.taken tag c lv).control ∧
        ∀ i k, (t.writeSlot i).route ≠ some (.status (.s n) k true) ∧
          (t.writeSlot i).route ≠ some (.message (.s n) true))

/-- CONFIGURE LINK in UNCONFIGURED or STOPPED, with every field in range and a reserve that the pool can honour: the
link enters STOPPED with the configuration of the record, its two initial levels among it, and drives those; its latch
and its counters stand. A target above 3 or a field out of range refuses it, and so does a reserve increase that the
pool cannot honour. In HELD only the timing fields may differ, and they are taken if they are in range. In RUNNING,
HOLDING and QUIESCING the command is refused (R58, R64, R67, R165, R170, R171). -/
def Obligations.LinkConfigured : Prop :=
  ∀ (s : State) (tag : BusNo) (c : Vector Byte 32) (lv : Levels), s.Awaits tag →
    (4 ≤ leField c 1 1 →
      exec (.configureLink tag c lv) s = .next ((s.taken tag c lv).endCommand .refusedRange).acceptOffers) ∧
    ∀ n : LinkId, leField c 1 1 = n →
    let ends (o : Code) : Prop := exec (.configureLink tag c lv) s =
      .next ((s.taken tag c lv).endCommand o).acceptOffers
    let timing := 1 ≤ leField c 6 1 ∧ 1 ≤ leField c 7 1 ∧ 1 ≤ leField c 9 1
    let old := (s.link n).config
    let same := leField c 4 1 = (match old.handshake with | .none => 0 | .paced => 1 | .busyOnly => 2 | .timed => 3) ∧
      leField c 5 1 = (if old.inboundEnabled then 1 else 0) ∧
      leField c 12 1 % 2 = (if old.faultStops then 1 else 0) ∧ leField c 13 1 = old.reserve ∧
      leField c 14 1 = old.ceiling ∧ leField c 15 1 = old.depth ∧
      leField c 16 1 = (if old.ctl0Initial then 1 else 0) ∧ leField c 17 1 = (if old.ctl1Initial then 1 else 0)
    let ok := leField c 4 1 ≤ 3 ∧ leField c 5 1 ≤ 1 ∧ leField c 16 1 ≤ 1 ∧ leField c 17 1 ≤ 1 ∧
      ¬(leField c 4 1 = 0 ∧ leField c 5 1 = 0) ∧ timing ∧ 1 ≤ leField c 14 1 ∧ leField c 14 1 ≤ 16 ∧
      leField c 13 1 ≤ 4 ∧ 1 ≤ leField c 15 1 ∧ leField c 15 1 ≤ 8 ∧ leField c 15 1 ≤ leField c 14 1
    let fits := old.reserve < leField c 13 1 → s.otherShortfalls n + leField c 13 1 ≤ s.freeLines.length
    (((s.link n).state = .running ∨ (s.link n).state = .holding ∨ (s.link n).state = .quiescing) →
      ends .refusedState) ∧
    ((s.link n).state = .held → ¬same → ends .refusedState) ∧
    ((s.link n).state = .held → same → ¬timing → ends .refusedRange) ∧
    ((s.link n).state = .held → same → timing →
      exec (.configureLink tag c lv) s = .next (((s.taken tag c lv).modLink n fun l => { l with config :=
        { l.config with
          setup := leField c 6 1, strobe := leField c 7 1, hold := leField c 8 1, turnaround := leField c 9 1,
          timeout := leField c 10 2 } }).endCommand .ok).acceptOffers) ∧
    (((s.link n).state = .unconfigured ∨ (s.link n).state = .stopped) → ¬ok → ends .refusedRange) ∧
    (((s.link n).state = .unconfigured ∨ (s.link n).state = .stopped) → ok → ¬fits → ends .resourcesUnavailable) ∧
    (((s.link n).state = .unconfigured ∨ (s.link n).state = .stopped) → ok → fits →
      ∃ t : State, exec (.configureLink tag c lv) s = .next (t.endCommand .ok).acceptOffers ∧
        (s.taken tag c lv).OnlyLinks t ∧
        t.units = s.units ∧ t.lines = s.lines ∧ (∀ m, m ≠ n → t.link m = s.link m) ∧
        t.control = (s.taken tag c lv).control ∧
        let l := t.link n
        l.state = .stopped ∧ l.dir = .outbound ∧ l.lines = [] ∧ l.attnLatch = (s.link n).attnLatch ∧
        l.counters = (s.link n).counters ∧
        l.config.handshake = (match leField c 4 1 with | 0 => .none | 1 => .paced | 2 => .busyOnly | _ => .timed) ∧
        l.config.inboundEnabled = decide (leField c 5 1 = 1) ∧ l.config.setup = leField c 6 1 ∧
        l.config.strobe = leField c 7 1 ∧ l.config.hold = leField c 8 1 ∧ l.config.turnaround = leField c 9 1 ∧
        l.config.timeout = leField c 10 2 ∧ l.config.faultStops = decide (leField c 12 1 % 2 = 1) ∧
        l.config.reserve = leField c 13 1 ∧ l.config.ceiling = leField c 14 1 ∧ l.config.depth = leField c 15 1 ∧
        l.config.ctl0Initial = decide (leField c 16 1 = 1) ∧ l.config.ctl1Initial = decide (leField c 17 1 = 1) ∧
        l.ctl0 = decide (leField c 16 1 = 1) ∧ l.ctl1 = decide (leField c 17 1 = 1))

/-- CREATE TRANSFER RING binds the ring of a STOPPED link and puts the link in RUNNING; an owed ATTENTION record is
offered in the same event. Other link states, a target above 3, a field out of range and a status ring that is not
ACTIVE refuse it (R3, R80, R165, R172). -/
def Obligations.TransferRingCreated : Prop :=
  ∀ (s : State) (tag : BusNo) (c : Vector Byte 32) (lv : Levels), s.Awaits tag →
    (4 ≤ leField c 1 1 →
      exec (.createTransferRing tag c lv) s = .next ((s.taken tag c lv).endCommand .refusedRange).acceptOffers) ∧
    ∀ n : LinkId, leField c 1 1 = n →
    ((s.link n).state ≠ .stopped →
      exec (.createTransferRing tag c lv) s = .next ((s.taken tag c lv).endCommand .refusedState).acceptOffers) ∧
    ((s.link n).state = .stopped →
      ¬((∃ k, 3 ≤ k ∧ k ≤ 10 ∧ leField c 4 2 = 2 ^ k) ∧ leField c 8 8 % 64 = 0 ∧
        leField c 8 8 + 32 * leField c 4 2 ≤ 2 ^ 48 ∧ leField c 6 1 < 4) →
      exec (.createTransferRing tag c lv) s = .next ((s.taken tag c lv).endCommand .refusedRange).acceptOffers) ∧
    ∀ k : Nat, (s.link n).state = .stopped → 3 ≤ k → k ≤ 10 → leField c 4 2 = 2 ^ k → leField c 8 8 % 64 = 0 →
      leField c 8 8 + 32 * 2 ^ k ≤ 2 ^ 48 → ∀ r : LinkId, leField c 6 1 = r →
      ((s.ring (.s r)).state ≠ .active →
        exec (.createTransferRing tag c lv) s = .next ((s.taken tag c lv).endCommand .refusedInUse).acceptOffers) ∧
      ((s.ring (.s r)).state = .active →
        exec (.createTransferRing tag c lv) s = .next (((((s.taken tag c lv).modUnit n fun _ =>
          { RingUnit.reset with
            bound := true, base := BitVec.ofNat 48 (leField c 8 8), size := 2 ^ k, statusRing := some r }).modLink n
            fun l => { l with
              state := .running, sub := .idle, holdCause := none, heldCopy := none, holdRecord := .none,
              cancellation := .none, snapshot := none }).offerAttention n).endCommand .ok).acceptOffers)

/-- DELETE TRANSFER RING on a RUNNING or HELD link puts it in QUIESCING with the tail as its snapshot; from RUNNING its
work is cancelled, from HELD the hold's items stand. An unstarted copy in front, and a CURRENT one whose bytes_done is
fixed, offers its COMPLETION with CANCELLED in the same event (R155, R156). As each such record is accepted the next
unstarted copy offers its own; after the last one, or at once where the window holds none but a held one whose record
has been answered, with nothing under way, an outbound link enters STOPPED, its ring unit is UNBOUND and the command
ends with OK; an inbound one first turns around, QUIESCING. Link states but RUNNING and HELD and a target above 3 refuse
it (R3, R69, R155 to R157, R165, R173). That a cancelled SEND is CANCELLED also where its last byte is sent in this
event is log 12 (DEDUCED), that the store cursor is idle at once log 37 (DESIGN CHOICE; State.GivenUp). -/
def Obligations.TransferRingDeleted : Prop :=
  ∀ (s : State) (tag : BusNo) (c : Vector Byte 32) (lv : Levels), s.Awaits tag →
    (4 ≤ leField c 1 1 →
      exec (.deleteTransferRing tag c lv) s = .next ((s.taken tag c lv).endCommand .refusedRange).acceptOffers) ∧
    ∀ n : LinkId, leField c 1 1 = n →
    let quiesces (l : Link) : Link :=
      { l with state := .quiescing, cancellation := .delete, snapshot := some (s.unit n).tail }
    ((s.link n).state ≠ .running → (s.link n).state ≠ .held →
      exec (.deleteTransferRing tag c lv) s = .next ((s.taken tag c lv).endCommand .refusedState).acceptOffers) ∧
    ((s.link n).state = .held → exec (.deleteTransferRing tag c lv) s = .next (State.serveLink n
      (((s.taken tag c lv).modLink n quiesces).modUnit n fun u =>
        { u with reread := if u.reread = .wanted then .none else u.reread })).acceptOffers) ∧
    ((s.link n).state = .running →
      ∃ t, exec (.deleteTransferRing tag c lv) s = .next (State.serveLink n t).acceptOffers ∧
      (s.taken tag c lv).GivenUp n t ∧ (t.link n).state = .quiescing ∧ (t.link n).cancellation = .delete ∧
      (t.link n).snapshot = some (s.unit n).tail ∧ (t.link n).offers = (s.link n).offers ∧
      (t.unit n).reread ≠ .wanted) ∧
    (∀ x xs, ((s.link n).state = .running ∨ (s.link n).state = .held) → (s.unit n).window = x :: xs →
      (x.unstarted = true ∨ (s.link n).state = .running ∧ x.exec = .current ∧
        (x.kind = some .signal ∨ x.kind = some .send ∧ (s.link n).phase = .none)) →
      s.MayOffer n →
      ∃ t, exec (.deleteTransferRing tag c lv) s = .next t.acceptOffers ∧ (s.taken tag c lv).OnlyLinks t ∧
        (t.link n).state = .quiescing ∧ (t.link n).cancellation = .delete ∧
        (t.unit n).window.map (·.slot) = (x :: xs).map (·.slot) ∧
        (t.unit n).head = (s.unit n).head ∧ (t.link n).offers = (s.link n).offers ++ [t.cancelledOffer n x
          (if x.exec = .current ∧ x.kind = some .send then (s.link n).sentCount else 0)]) ∧
    (∀ r o x cs, s.CancelsFront n r o x cs → (s.link n).state = .quiescing → (s.link n).cancellation = .delete →
      let u := s.recordTaken n r o
      (∀ y ys, cs = y :: ys → y.unstarted = true → ∃ t, s.acceptOne (.s r) = t ∧ u.OnlyLinks t ∧
        (t.link n).state = .quiescing ∧ (t.unit n).head = ((s.unit n).head + 1) % (s.unit n).size ∧
        (t.unit n).window.map (·.slot) = cs.map (·.slot) ∧ (t.link n).offers = [t.cancelledOffer n y 0]) ∧
      ∀ q, cs = [] → (s.link n).snapshot = some q →
        ((s.link n).dir = .outbound → ∃ t : State, s.acceptOne (.s r) = t.endCommand .ok ∧
          u.OnlyLinks t ∧ (t.link n).state = .stopped ∧ t.unit n = RingUnit.reset ∧ t.control = s.control) ∧
        ((s.link n).dir = .inbound → ∃ t, s.acceptOne (.s r) = t ∧ u.OnlyLinks t ∧
          (t.link n).state = .quiescing ∧ (t.link n).dir = .outbound ∧
          (t.link n).turnTimer = some (s.link n).config.turnaround ∧ (t.unit n).head = q ∧
          (t.unit n).fetched = q ∧ t.control = s.control)) ∧
    (((s.link n).state = .running ∨ (s.link n).state = .held) →
      ((s.unit n).window = [] ∨ (s.link n).state = .held ∧ (s.link n).holdRecord = .done ∧
        ∃ x, (s.unit n).window = [x] ∧ x.exec = .failed) →
      (s.unit n).fetchOutstanding = false → (s.link n).lines = [] → (s.link n).phase = .none →
      (s.link n).turnTimer = none → (∀ o, o ∈ (s.link n).offers → o.purpose = .attention) →
      ((s.link n).dir = .outbound →
        ∃ t : State, exec (.deleteTransferRing tag c lv) s = .next (t.endCommand .ok).acceptOffers ∧
        (s.taken tag c lv).OnlyLinks t ∧ (∀ m, m ≠ n → t.link m = s.link m ∧ t.unit m = s.unit m) ∧
        (t.link n).state = .stopped ∧ t.unit n = RingUnit.reset ∧ t.control = (s.taken tag c lv).control) ∧
      ((s.link n).dir = .inbound → ∃ t, exec (.deleteTransferRing tag c lv) s = .next t.acceptOffers ∧
        (s.taken tag c lv).OnlyLinks t ∧ (∀ m, m ≠ n → t.link m = s.link m ∧ t.unit m = s.unit m) ∧
        (t.link n).state = .quiescing ∧ (t.link n).dir = .outbound ∧
        (t.link n).turnTimer = some (s.link n).config.turnaround ∧ (t.unit n).head = (s.unit n).tail ∧
        (t.unit n).fetched = (s.unit n).tail ∧ t.control = (s.taken tag c lv).control))

/-- RESUME LINK: RETRY asks for the held slot to be read again, SKIP retires the held copy without a record; both end
the hold. FLUSH retires a held copy without a second record and cancels the rest of the window: the front copy,
unstarted, offers its COMPLETION with CANCELLED in the same event, and the next one as each is accepted; after the last
one, or at once where no copy is left, with no fetch outstanding, every posted slot retires unseen, the link returns to
RUNNING, or stays HELD where the cause has become STATUS_LOST, and the command ends with OK. Links not in HELD, and
holds with cause STATUS_LOST, refuse it, and so do an action that is not listed and a target above 3 (R16, R151 to R154,
R165, R174). That the held copy item is absent as soon as a FLUSH is taken is the model's (log 35, DESIGN CHOICE). -/
def Obligations.LinkResumed : Prop :=
  ∀ (s : State) (tag : BusNo) (c : Vector Byte 32) (lv : Levels), s.Awaits tag →
    (4 ≤ leField c 1 1 →
      exec (.resumeLink tag c lv) s = .next ((s.taken tag c lv).endCommand .refusedRange).acceptOffers) ∧
    ∀ n : LinkId, leField c 1 1 = n →
    let held := (s.link n).heldCopy.isSome
    let run (l : Link) : Link :=
      { l with state := .running, sub := .idle, holdCause := none, heldCopy := none, holdRecord := .none,
               cancellation := .none, snapshot := none }
    (((s.link n).state ≠ .held ∨ (s.link n).holdCause = some .statusLost) →
      exec (.resumeLink tag c lv) s = .next ((s.taken tag c lv).endCommand .refusedState).acceptOffers) ∧
    ((s.link n).state = .held → (s.link n).holdCause ≠ some .statusLost →
      ((leField c 4 1 = 0 ∨ 3 < leField c 4 1) →
        exec (.resumeLink tag c lv) s = .next ((s.taken tag c lv).endCommand .refusedRange).acceptOffers) ∧
      (leField c 4 1 = 1 → exec (.resumeLink tag c lv) s = .next (State.serveLink n
        (((if held then (s.taken tag c lv).modUnit n fun u => { u with reread := .wanted }
           else s.taken tag c lv).modLink n run).endCommand .ok)).acceptOffers) ∧
      (leField c 4 1 = 2 → exec (.resumeLink tag c lv) s = .next (State.serveLink n
        (((if held then (s.taken tag c lv).retireFront n
           else s.taken tag c lv).modLink n run).endCommand .ok)).acceptOffers) ∧
      (leField c 4 1 = 3 → exec (.resumeLink tag c lv) s = .next (State.serveLink n
        ((if held then (s.taken tag c lv).retireFront n else s.taken tag c lv).modLink n fun l =>
          { l with cancellation := .flush, heldCopy := none })).acceptOffers) ∧
      (leField c 4 1 = 3 → (∀ o, o ∈ (s.link n).offers → o.purpose = .attention) →
        let rest := if held then (s.unit n).window.tail else (s.unit n).window
        (∀ x xs, rest = x :: xs → x.unstarted = true →
          (∀ r, (s.unit n).statusRing = some r → (s.ring (.s r)).state ≠ .failed) →
          ∃ t, exec (.resumeLink tag c lv) s = .next t.acceptOffers ∧ (s.taken tag c lv).OnlyLinks t ∧
            (t.link n).state = .held ∧
            (t.link n).cancellation = .flush ∧ (t.unit n).window.map (·.slot) = rest.map (·.slot) ∧
            (t.link n).offers = (s.link n).offers ++ [t.cancelledOffer n x 0]) ∧
        (rest = [] → (s.unit n).fetchOutstanding = false →
          ∃ t : State, exec (.resumeLink tag c lv) s = .next (t.endCommand .ok).acceptOffers ∧
            (s.taken tag c lv).OnlyLinks t ∧
            (t.link n).state = .running ∧ (t.unit n).head = (s.unit n).tail ∧ (t.unit n).fetched = (s.unit n).tail ∧
            (t.unit n).tail = (s.unit n).tail ∧ t.control = (s.taken tag c lv).control))) ∧
    ∀ r o x cs, s.CancelsFront n r o x cs → (s.link n).state = .held → (s.link n).cancellation = .flush →
      let u := s.recordTaken n r o
      (∀ y ys, cs = y :: ys → y.unstarted = true → ∃ t, s.acceptOne (.s r) = t ∧ u.OnlyLinks t ∧
        (t.link n).state = .held ∧ (t.unit n).head = ((s.unit n).head + 1) % (s.unit n).size ∧
        (t.unit n).window.map (·.slot) = cs.map (·.slot) ∧ (t.link n).offers = [t.cancelledOffer n y 0]) ∧
      (cs = [] → ∃ t : State, s.acceptOne (.s r) = t.endCommand .ok ∧ u.OnlyLinks t ∧
        (t.unit n).head = (s.unit n).tail ∧ (t.unit n).fetched = (s.unit n).tail ∧ t.control = s.control ∧
        ((s.link n).holdCause = some .statusLost →
          (t.link n).state = .held ∧ (t.link n).holdCause = some .statusLost ∧ (t.link n).cancellation = .none) ∧
        ((s.link n).holdCause ≠ some .statusLost → (t.link n).state = .running ∧ (t.link n).holdCause = none ∧
          (t.link n).cancellation = .none))

/-- ABORT LINK: refused in UNCONFIGURED and for a target above 3, without effect in STOPPED. A link that is RUNNING,
HOLDING or HELD enters QUIESCING with the tail as its snapshot; from RUNNING its work is cancelled, from HOLDING and
HELD the hold's items stand. An unstarted copy in front, and from RUNNING a CURRENT one whose bytes_done is fixed,
offers its COMPLETION with CANCELLED in the same event (R155, R156). As each such record is accepted the next unstarted
copy offers its own; after the last one, or at once where the window holds none but a held one whose record has been
answered, with nothing under way, every posted slot up to the snapshot retires unseen, the link is RUNNING, and the
command ends with OK (R16, R155 to R157, R165, R175). That a cancelled SEND is CANCELLED also where its last byte is
sent in this event is log 12 (DEDUCED), that the store cursor is idle at once log 37 (DESIGN CHOICE; State.GivenUp). -/
def Obligations.LinkAborted : Prop :=
  ∀ (s : State) (tag : BusNo) (c : Vector Byte 32) (lv : Levels), s.Awaits tag →
    (4 ≤ leField c 1 1 →
      exec (.abortLink tag c lv) s = .next ((s.taken tag c lv).endCommand .refusedRange).acceptOffers) ∧
    ∀ n : LinkId, leField c 1 1 = n →
    let quiesces (l : Link) : Link :=
      { l with state := .quiescing, cancellation := .abort, snapshot := some (s.unit n).tail }
    ((s.link n).state = .unconfigured →
      exec (.abortLink tag c lv) s = .next ((s.taken tag c lv).endCommand .refusedState).acceptOffers) ∧
    ((s.link n).state = .stopped →
      exec (.abortLink tag c lv) s = .next ((s.taken tag c lv).endCommand .ok).acceptOffers) ∧
    (((s.link n).state = .holding ∨ (s.link n).state = .held) →
      exec (.abortLink tag c lv) s = .next (State.serveLink n
        (((s.taken tag c lv).modLink n quiesces).modUnit n fun u =>
          { u with reread := if u.reread = .wanted then .none else u.reread })).acceptOffers) ∧
    ((s.link n).state = .running → ∃ t, exec (.abortLink tag c lv) s = .next (State.serveLink n t).acceptOffers ∧
      (s.taken tag c lv).GivenUp n t ∧ (t.link n).state = .quiescing ∧ (t.link n).cancellation = .abort ∧
      (t.link n).snapshot = some (s.unit n).tail ∧ (t.link n).offers = (s.link n).offers ∧
      (t.unit n).reread ≠ .wanted) ∧
    (∀ x xs, ((s.link n).state = .running ∨ (s.link n).state = .holding ∨ (s.link n).state = .held) →
      (s.unit n).window = x :: xs →
      (x.unstarted = true ∨ (s.link n).state = .running ∧ x.exec = .current ∧
        (x.kind = some .signal ∨ x.kind = some .send ∧ (s.link n).phase = .none)) →
      s.MayOffer n →
      ∃ t, exec (.abortLink tag c lv) s = .next t.acceptOffers ∧ (s.taken tag c lv).OnlyLinks t ∧
        (t.link n).state = .quiescing ∧
        (t.link n).cancellation = .abort ∧ (t.unit n).window.map (·.slot) = (x :: xs).map (·.slot) ∧
        (t.unit n).head = (s.unit n).head ∧ (t.link n).offers = (s.link n).offers ++ [t.cancelledOffer n x
          (if x.exec = .current ∧ x.kind = some .send then (s.link n).sentCount else 0)]) ∧
    (∀ r o x cs, s.CancelsFront n r o x cs → (s.link n).state = .quiescing → (s.link n).cancellation = .abort →
      let u := s.recordTaken n r o
      (∀ y ys, cs = y :: ys → y.unstarted = true → ∃ t, s.acceptOne (.s r) = t ∧ u.OnlyLinks t ∧
        (t.link n).state = .quiescing ∧ (t.unit n).head = ((s.unit n).head + 1) % (s.unit n).size ∧
        (t.unit n).window.map (·.slot) = cs.map (·.slot) ∧ (t.link n).offers = [t.cancelledOffer n y 0]) ∧
      ∀ q, cs = [] → (s.link n).snapshot = some q →
        ∃ t : State, s.acceptOne (.s r) = t.endCommand .ok ∧ u.OnlyLinks t ∧
          (t.link n).state = .running ∧ (t.link n).dir = (s.link n).dir ∧ (t.link n).cancellation = .none ∧
          (t.unit n).head = q ∧ (t.unit n).fetched = q ∧ (t.unit n).tail = (s.unit n).tail ∧
          t.control = s.control) ∧
    (((s.link n).state = .running ∨ (s.link n).state = .held) →
      ((s.unit n).window = [] ∨ (s.link n).state = .held ∧ (s.link n).holdRecord = .done ∧
        ∃ x, (s.unit n).window = [x] ∧ x.exec = .failed) →
      (s.unit n).fetchOutstanding = false → (s.link n).lines = [] → (s.link n).phase = .none →
      (s.link n).turnTimer = none → (∀ o, o ∈ (s.link n).offers → o.purpose = .attention) →
      ∃ t : State, exec (.abortLink tag c lv) s = .next (t.endCommand .ok).acceptOffers ∧
        (s.taken tag c lv).OnlyLinks t ∧
        (∀ m, m ≠ n → t.link m = s.link m ∧ t.unit m = s.unit m) ∧ (t.link n).state = .running ∧
        (t.link n).dir = (s.link n).dir ∧ (t.unit n).head = (s.unit n).tail ∧ (t.unit n).fetched = (s.unit n).tail ∧
        (t.unit n).tail = (s.unit n).tail ∧ t.control = (s.taken tag c lv).control)

/-- SET LINES: each output named takes its level at once and stops pulsing without its restore, one given KEEP is left
as it is; refused in UNCONFIGURED, for a level that is not listed and for a target above 3 (R84, R165, R176). One that
ends every pulse of a SIGNAL ends its pulse phase: the pulse timer stops and the wait begins, or the SIGNAL ends with OK
where nothing is awaited or the level stands (R82, R83). -/
def Obligations.LinesSet : Prop :=
  ∀ (s : State) (tag : BusNo) (c : Vector Byte 32) (lv : Levels), s.Awaits tag →
    (4 ≤ leField c 1 1 →
      exec (.setLines tag c lv) s = .next ((s.taken tag c lv).endCommand .refusedRange).acceptOffers) ∧
    ∀ n : LinkId, leField c 1 1 = n →
    ((s.link n).state = .unconfigured →
      exec (.setLines tag c lv) s = .next ((s.taken tag c lv).endCommand .refusedState).acceptOffers) ∧
    ((s.link n).state ≠ .unconfigured → (2 < leField c 4 1 ∨ 2 < leField c 5 1) →
      exec (.setLines tag c lv) s = .next ((s.taken tag c lv).endCommand .refusedRange).acceptOffers) ∧
    ((s.link n).state ≠ .unconfigured → leField c 4 1 ≤ 2 → leField c 5 1 ≤ 2 →
      let u := s.taken tag c lv
      let set (l : Link) : Link :=
        { l with
          ctl0 := if leField c 4 1 = 0 then l.ctl0 else decide (leField c 4 1 = 2)
          ctl1 := if leField c 5 1 = 0 then l.ctl1 else decide (leField c 5 1 = 2)
          restore0 := if leField c 4 1 = 0 then l.restore0 else none
          restore1 := if leField c 5 1 = 0 then l.restore1 else none }
      let ended := (s.link n).pulseTimer ≠ none ∧ (leField c 4 1 = 0 → (s.link n).restore0 = none) ∧
        (leField c 5 1 = 0 → (s.link n).restore1 = none)
      let leaves (t : State) : Prop :=
        exec (.setLines tag c lv) s = .next (State.serveLink n (t.endCommand .ok)).acceptOffers
      (¬ended → leaves (u.modLink n set)) ∧
      (ended → (s.link n).sub ≠ .signalling → leaves (u.modLink n fun l => { set l with pulseTimer := none })) ∧
      ∀ x d, (s.unit n).current = some x → x.desc = some d → ended → (s.link n).sub = .signalling →
        let wait := d.wait.getD .none
        (levelMeets (u.pin n) wait = false → leaves (u.modLink n fun l =>
          { set l with
            pulseTimer := none, wait := some wait
            limitTimer := if d.waitLimit = 0 then none else some d.waitLimit })) ∧
        (levelMeets (u.pin n) wait = true → leaves ((u.modUnit n fun y =>
          { y with window := y.window.map fun z =>
              if z.exec = .current then { z with exec := .doneUnretired, outcome := some .ok, bytesDone := some 0 }
              else z }).modLink n fun l =>
          { set l with pulseTimer := none, sub := .idle, descOk := addCounter l.descOk 1 })))

/-- READ COUNTERS and READ ERROR LOG: a buffer that is not 64-byte aligned or reaches past the end of memory is refused;
else the command captures the 26 counters in the block's order, or the log, whose event-since-capture flag is cleared,
and its first write is offered (R177, R179). The layouts of what the two writes carry: the counter block of 128 bytes
(section 11.6.7) and the error log record of 32 (section 11.6.8; O43 gives the values of its code field); that a tag, an
address or a detail which a present first-error record does not have is written 0 is the model's (log 34, DESIGN
CHOICE). -/
def Obligations.CapturesMade : Prop :=
  (∀ (s : State) (tag : BusNo) (c : Vector Byte 32) (lv : Levels), s.Awaits tag →
    (s.counters.toList = (allLinks.flatMap fun n => [(s.link n).bytesOut, (s.link n).bytesIn, (s.link n).descOk,
      (s.link n).descFailed, (s.link n).linkTimeouts, (s.link n).linesDiscarded]) ++
      [s.lateResponses, s.recordsDiscarded]) ∧
    (leField c 8 8 % 64 = 0 → leField c 8 8 + 128 ≤ 2 ^ 48 → s.OfferInv →
      exec (.readCounters tag c lv) s = .next ((s.taken tag c lv).modControl fun x =>
        { x with capture := .counters s.counters, write0 := .offered, write1 := .idle, failure := none })) ∧
    ((leField c 8 8 % 64 ≠ 0 ∨ 2 ^ 48 < leField c 8 8 + 128) →
      exec (.readCounters tag c lv) s = .next ((s.taken tag c lv).endCommand .refusedRange).acceptOffers) ∧
    (leField c 8 8 % 64 = 0 → leField c 8 8 + 32 ≤ 2 ^ 48 → s.OfferInv →
      ∃ t, exec (.readErrorLog tag c lv) s = .next t ∧
      t = { (s.taken tag c lv).modControl fun x =>
              { x with capture := .log s.errorLog, write0 := .offered, failure := none } with
            errorLog := { s.errorLog with sinceCapture := false } }) ∧
    ((leField c 8 8 % 64 ≠ 0 ∨ 2 ^ 48 < leField c 8 8 + 32) →
      exec (.readErrorLog tag c lv) s = .next ((s.taken tag c lv).endCommand .refusedRange).acceptOffers)) ∧
  (∀ v : Vector Word 26, (counterBlock v).length = 128 ∧ fieldOf (counterBlock v) 104 24 = 0 ∧
    ∀ i : Fin 26, fieldOf (counterBlock v) (4 * i) 4 = v[i].toNat) ∧
  ∀ l : ErrorLog,
    let f := fieldOf l.bytes
    l.bytes.length = 32 ∧ f 0 1 = (if l.first = none then 0 else 1) + (if l.noticeLatch then 2 else 0) ∧
    (l.further < 256 → f 7 1 = l.further) ∧ (∀ i : Fin 7, f 20 1 / 2 ^ (i : Nat) % 2 = if l.repeats[i] then 1 else 0) ∧
    f 20 1 < 128 ∧ f 21 11 = 0 ∧ (l.first = none → f 1 6 = 0 ∧ f 8 12 = 0) ∧
    ∀ e, l.first = some e →
      f 1 1 = (match e.cls with
        | .descriptor => 1 | .memory => 2 | .link => 3 | .register => 4 | .message => 5 | .bus => 6 | .fatal => 7) ∧
      f 2 1 = e.code.value ∧
      f 3 1 = (match e.source with
        | .link n => (n : Nat) | .ringUnit n => 4 + n | .ring .sc => 8 | .ring (.s n) => 9 + n
        | .control => 13 | .bus => 14 | .register => 15) ∧
      f 4 2 = (match e.tag with | some x => x.toNat | none => 0) ∧
      f 6 1 = (if e.tag = none then 0 else 1) + (if e.address = none then 0 else 2) +
        (if e.detail = none then 0 else 4) ∧
      f 8 8 = (match e.address with | some a => a.toNat | none => 0) ∧
      f 16 4 = (match e.detail with | some x => x.toNat | none => 0)

/-- READ COUNTERS goes on: the first of its two writes to end, whichever it is, only notes its end, and a failure of it;
the second ends the command, with OK and the clear by subtraction where neither failed, else with the failure first
taken. Each failure is logged (R177, R178). READ ERROR LOG ends with its write: on DONE the log is cleared where the
option asks for it and no event has come since the capture (R160, R179). -/
def Obligations.ControlWritesEnd : Prop :=
  ∀ (s : State) (slot : BusNo) (lv : Levels) (c : Vector Byte 32), s.partState = .running →
    s.control.state = .executing → s.control.current = some c →
    let event : ErrorEvent :=
      { cls := .memory, code := .memoryWriteError, source := .control, tag := none,
        address := some (s.writeSlot slot).address, detail := none }
    (∀ (b : Bool) (v : Vector Word 26), s.Holds .write slot (.counters b) → s.control.capture = .counters v →
      let other := if b then s.control.write0 else s.control.write1
      let noted (x : Control) : Control := if b then { x with write1 := .ended } else { x with write0 := .ended }
      (other ≠ .ended → s.OfferInv →
        exec (.counterBlockWriteEnd slot .done lv) s = .next ((s.freed .write slot lv).modControl noted)) ∧
      (other ≠ .ended → exec (.counterBlockWriteEnd slot .error lv) s =
        .next (((s.freed .write slot lv).modControl fun x =>
        { noted x with failure := some (x.failure.getD .memoryWriteError) }).logEvent event).acceptOffers) ∧
      (other = .ended → s.control.failure = none → ∃ t : State,
        exec (.counterBlockWriteEnd slot .done lv) s = .next (t.endCommand .ok).acceptOffers ∧
        t = { (s.freed .write slot lv).modControl noted with
          links := t.links, lateResponses := t.lateResponses, recordsDiscarded := t.recordsDiscarded } ∧
        (leField c 4 1 % 2 = 1 → t.lateResponses = s.lateResponses - v[24] ∧
          t.recordsDiscarded = s.recordsDiscarded - v[25] ∧
          ∀ n : LinkId, t.link n = { s.link n with
            bytesOut := (s.link n).bytesOut - v[6 * (n : Nat)]
            bytesIn := (s.link n).bytesIn - v[6 * (n : Nat) + 1]
            descOk := (s.link n).descOk - v[6 * (n : Nat) + 2]
            descFailed := (s.link n).descFailed - v[6 * (n : Nat) + 3]
            linkTimeouts := (s.link n).linkTimeouts - v[6 * (n : Nat) + 4]
            linesDiscarded := (s.link n).linesDiscarded - v[6 * (n : Nat) + 5] }) ∧
        (leField c 4 1 % 2 = 0 → t.links = s.links ∧ t.lateResponses = s.lateResponses ∧
          t.recordsDiscarded = s.recordsDiscarded)) ∧
      (∀ o, other = .ended → s.control.failure = some o → exec (.counterBlockWriteEnd slot .done lv) s =
        .next (((s.freed .write slot lv).modControl noted).endCommand o).acceptOffers) ∧
      (other = .ended → exec (.counterBlockWriteEnd slot .error lv) s =
        .next (((((s.freed .write slot lv).modControl fun x => { noted x with
          failure := some (x.failure.getD .memoryWriteError) }).logEvent event)).endCommand
          (s.control.failure.getD .memoryWriteError)).acceptOffers)) ∧
    (s.Holds .write slot .log →
      (leField c 4 1 % 2 = 1 → s.errorLog.sinceCapture = false → exec (.errorLogWriteEnd slot .done lv) s =
        .next (State.endCommand .ok { s.freed .write slot lv with errorLog := ErrorLog.reset }).acceptOffers) ∧
      ((leField c 4 1 % 2 = 0 ∨ s.errorLog.sinceCapture = true) →
        exec (.errorLogWriteEnd slot .done lv) s = .next ((s.freed .write slot lv).endCommand .ok).acceptOffers) ∧
      exec (.errorLogWriteEnd slot .error lv) s =
        .next (((s.freed .write slot lv).logEvent event).endCommand .memoryWriteError).acceptOffers)

/-! ### Ring units -/

/-- A descriptor fetch that ends with DATA adds one WAITING copy for each slot read, with its fields and its verdict,
behind the copies there; in HALTED the data are dropped (R8, R11). The fields of a descriptor in its 32 bytes (section
11.6.2), an enumerated one absent where its value has no listed meaning (R201). -/
def Obligations.DescriptorsArrive : Prop :=
  (∀ (s : State) (tag : BusNo) (v : Vector Byte 64) (lv : Levels) (n : LinkId) (slot count : Nat),
    s.Holds .read tag (.descriptor n slot count) →
    (s.partState = .running → exec (.descriptorFetchData tag v lv) s = .next (State.serveLink n
      (((s.freed .read tag lv).modUnit n fun u => { u with fetchOutstanding := false }).modUnit n fun u =>
        { u with window := u.window ++ (List.range count).map fun i =>
            let d := Descriptor.decode v (32 * i)
            { slot := slot + i, desc := some d, verdict := d.check (s.link n).config,
              inlineMismatch := d.check (s.link n).config == .valid && d.inlineSumWrong, exec := .waiting,
              outcome := none, detail := .absent, bytesDone := none } })).acceptOffers) ∧
    (s.partState = .halted → exec (.descriptorFetchData tag v lv) s =
      .next ((s.freed .read tag lv).modUnit n fun u => { u with fetchOutstanding := false }))) ∧
  ∀ (v : Vector Byte 64) (o : Nat),
    let d := Descriptor.decode v o
    let f (off len : Nat) : Nat := leField v (o + off) len
    let flag (i : Nat) : Bool := decide (f 1 1 / 2 ^ i % 2 = 1)
    let action (x : Nat) : Option CtlAction :=
      match x with | 0 => some .keep | 1 => some .low | 2 => some .high | 3 => some .pulse | _ => none
    d.kind = (match f 0 1 with | 1 => some .send | 2 => some .receive | 3 => some .signal | _ => none) ∧
    d.quiet = flag 0 ∧ d.shortIsError = flag 1 ∧ d.expiryIsError = flag 2 ∧ d.pauseAfter = flag 3 ∧
    d.clearAttention = flag 4 ∧ d.tag.toNat = f 2 2 ∧ d.byteCount = f 4 3 ∧
    d.form = (match f 7 1 % 16 with | 0 => some .inline | 1 => some .table | _ => none) ∧
    d.segmentCount = f 7 1 / 16 ∧ d.addr0.toNat = f 8 8 ∧ d.len0 = f 16 4 ∧ d.len1 = f 20 4 ∧
    d.addr1.toNat = f 24 8 ∧ d.tableAddr = f 8 8 ∧ d.entryCount = f 16 4 ∧ d.ctl0 = action (f 4 1) ∧
    d.ctl1 = action (f 5 1) ∧ d.pulseWidth = f 6 1 ∧
    d.wait = (match f 7 1 with
      | 0 => some .none | 1 => some .attnHigh | 2 => some .attnLow | 3 => some .faultHigh | 4 => some .faultLow
      | 5 => some .busyHigh | 6 => some .busyLow | _ => none) ∧
    d.waitLimit = f 8 2

/-- The checks of a new copy in the order of R23: the first that fails gives the verdict, and a copy that passes all of
its kind is VALID. A VALID INLINE copy whose lengths do not add to byte_count carries the INLINE mismatch. -/
def Obligations.VerdictsGiven : Prop :=
  ∀ (d : Descriptor) (cfg : LinkConfig) (slot : Nat),
    let mode := (d.kind = some .send ∧ cfg.handshake ≠ .none) ∨ (d.kind = some .receive ∧ cfg.inboundEnabled = true)
    let count := 1 ≤ d.byteCount ∧ d.byteCount ≤ 1048576
    let form := (d.form = some .inline ∧ (d.segmentCount = 1 ∨ d.segmentCount = 2) ∧ 1 ≤ d.len0 ∧ d.len0 ≤ 65536 ∧
        (d.segmentCount = 2 → 1 ≤ d.len1 ∧ d.len1 ≤ 65536)) ∨
      (d.form = some .table ∧ 1 ≤ d.len0 ∧ d.len0 ≤ 64)
    let address := (d.form = some .inline ∧ d.addr0.toNat + d.len0 ≤ 2 ^ 48 ∧
        (d.segmentCount = 2 → d.addr1.toNat + d.len1 ≤ 2 ^ 48)) ∨
      (d.form = some .table ∧ d.addr0.toNat % 16 = 0 ∧ d.addr0.toNat + 16 * d.len0 ≤ 2 ^ 48)
    let signal := d.ctl0 ≠ none ∧ d.ctl1 ≠ none ∧ d.wait ≠ none ∧
      ((d.ctl0 = some .pulse ∨ d.ctl1 = some .pulse) → d.pulseWidth ≠ 0)
    let c := makeCopy cfg slot d
    (c.verdict = .invalid .kind ↔ d.kind = none) ∧
    (c.verdict = .invalid .mode ↔ (d.kind = some .send ∨ d.kind = some .receive) ∧ ¬mode) ∧
    (c.verdict = .invalid .count ↔ mode ∧ ¬count) ∧ (c.verdict = .invalid .form ↔ mode ∧ count ∧ ¬form) ∧
    (c.verdict = .invalid .address ↔ mode ∧ count ∧ form ∧ ¬address) ∧
    (c.verdict = .invalid .signalField ↔ d.kind = some .signal ∧ ¬signal) ∧
    (c.verdict = .valid ↔ mode ∧ count ∧ form ∧ address ∨ d.kind = some .signal ∧ signal) ∧
    (c.inlineMismatch = true ↔ c.verdict = .valid ∧ d.kind ≠ some .signal ∧ d.form = some .inline ∧
      d.len0 + (if d.segmentCount = 2 then d.len1 else 0) ≠ d.byteCount)

/-- A descriptor fetch that ends with ERROR: the fetched position goes back to the slot after the first one read,
which gets an UNREADABLE copy; in QUIESCING it goes back to that slot and no copy is made. A MEMORY event names the
slot's address (R9). -/
def Obligations.DescriptorFetchFails : Prop :=
  ∀ (s : State) (tag : BusNo) (lv : Levels) (n : LinkId) (slot count : Nat),
    s.Holds .read tag (.descriptor n slot count) → s.partState = .running →
    let t := ((s.freed .read tag lv).modUnit n fun u => { u with fetchOutstanding := false }).logEvent
      { cls := .memory, code := .memoryReadError, source := .ringUnit n, tag := none,
        address := some ((s.unit n).base + BitVec.ofNat 48 (32 * slot)), detail := none }
    ((s.link n).state ≠ .quiescing → exec (.descriptorSlotFetchFailure tag .error lv) s =
      .next (State.serveLink n (t.modUnit n fun u =>
        { u with
          fetched := (slot + 1) % u.size
          window := u.window ++ [{
            slot := slot, desc := none, verdict := .unreadable .error,
            inlineMismatch := false, exec := .waiting, outcome := none, detail := .absent,
            bytesDone := none }] })).acceptOffers) ∧
    ((s.link n).state = .quiescing → exec (.descriptorSlotFetchFailure tag .error lv) s =
      .next (State.serveLink n (t.modUnit n fun u => { u with fetched := slot })).acceptOffers)

/-- The re-read of a FAILED front copy: with DATA the copy is replaced by one that is WAITING and freshly checked; with
ERROR it is UNREADABLE and FAILED, a MEMORY event names the slot's address, and a RUNNING link holds again; that a link
which has left RUNNING meanwhile keeps its hold as it is, is log 15 (DESIGN CHOICE). A re-read that ends either way in
QUIESCING, or after its copy has left the window, changes no copy, makes no record and sends no event (R9, R17, R152).
-/
def Obligations.RereadEnds : Prop :=
  (∀ (s : State) (tag : BusNo) (v : Vector Byte 64) (lv : Levels) (n : LinkId) (c : Copy) (cs : List Copy),
    s.Holds .read tag (.reread n c.slot) → s.partState = .running → (s.unit n).reread = .outstanding →
    (s.unit n).window = c :: cs → c.exec = .failed →
    let t := (s.freed .read tag lv).modUnit n fun u => { u with fetchOutstanding := false }
    let fails (t' : State) : Prop :=
      exec (.descriptorRereadEnd tag .error lv) s = .next (State.serveLink n t').acceptOffers ∧ t.OnlyLinks t' ∧
      (t'.link n).descFailed = addCounter (s.link n).descFailed 1 ∧
      t'.errorLog = s.errorLog.after {
        cls := .memory, code := .memoryReadError, source := .ringUnit n, tag := none
        address := some ((s.unit n).base + BitVec.ofNat 48 (32 * c.slot)), detail := none } ∧
      (t'.unit n).copy c.slot = some {
        slot := c.slot, desc := none, verdict := .unreadable .error, inlineMismatch := false, exec := .failed,
        outcome := some .memoryReadError, detail := .fetch, bytesDone := some 0 } ∧
      (t'.unit n).window.map (·.slot) = (s.unit n).window.map (·.slot) ∧ (t'.unit n).reread = .none
    ((s.link n).state ≠ .quiescing →
      exec (.descriptorRereadEnd tag (.data v) lv) s = .next (State.serveLink n (t.modUnit n fun u =>
        { u with
          reread := .none
          window := u.window.map fun x => if x.slot == c.slot
            then makeCopy (s.link n).config c.slot (Descriptor.decode v 0) else x })).acceptOffers) ∧
    ((s.link n).state = .running → ∃ t', fails t' ∧ (t'.link n).state = .holding ∧
      (t'.link n).holdCause = some .error ∧ (t'.link n).heldCopy = some c.slot) ∧
    (((s.link n).state = .holding ∨ (s.link n).state = .held) → ∃ t', fails t' ∧
      t'.link n = { s.link n with descFailed := (t'.link n).descFailed })) ∧
  ∀ (s : State) (tag : BusNo) (e : ReadEnd) (lv : Levels) (n : LinkId) (slot : Nat),
    s.Holds .read tag (.reread n slot) → s.partState = .running → e ≠ .timeout →
    ((s.link n).state = .quiescing ∨ (s.unit n).reread ≠ .outstanding ∨
      ∀ c, (s.unit n).window.head? = some c → c.slot ≠ slot) →
    exec (.descriptorRereadEnd tag e lv) s = .next (State.serveLink n
      ((s.freed .read tag lv).modUnit n fun u => { u with fetchOutstanding := false })).acceptOffers

/-- A segment table read: with DATA its entries, each an address of 8 bytes and a length of 4 in 16 (section 11.6.3),
are placed in index order; with ERROR the mismatch point is its first entry, and a MEMORY event is logged; where the
window has been emptied since, the end is dropped (R27, R28, R30). An entry out of range, or one that takes the sum
above byte_count, is the mismatch point and is not kept; an entry that ends the table short, or reaches the sum early,
is kept, and the point is the next index; entries after a point are dropped. -/
def Obligations.TableReadEnds : Prop :=
  (∀ (s : State) (tag : BusNo) (v : Vector Byte 64) (lv : Levels) (n : LinkId) (k : CursorKind)
      (first count : Nat) (d : Descriptor),
    s.Holds .read tag (.table n k first count) → s.partState = .running → s.cursorDesc n k = some d →
    let t := (s.freed .read tag lv).modSegWindow n k fun w => { w with read := .none }
    ((s.segWindow n k).read = .live → exec (.tableReadData tag v lv) s =
      .next (State.serveLink n (t.modSegWindow n k fun w => w.placeAll d first count v)).acceptOffers) ∧
    ((s.segWindow n k).read = .live → exec (.tableReadFailure tag .error lv) s =
      .next (State.serveLink n ((t.modSegWindow n k fun w =>
        { w with next := first, mismatch := some (first, .memoryReadError) }).logEvent
        { cls := .memory, code := .memoryReadError, source := .ringUnit n, tag := none,
          address := some (s.readTag tag).address, detail := none })).acceptOffers) ∧
    ((s.segWindow n k).read ≠ .live → s.OfferInv →
      exec (.tableReadData tag v lv) s = .next t ∧ exec (.tableReadFailure tag .error lv) s = .next t)) ∧
  (∀ (d : Descriptor) (first k : Nat) (v : Vector Byte 64) (w : SegWindow), w.placeAll d first 0 v = w ∧
    w.placeAll d first (k + 1) v = SegWindow.place d (w.placeAll d first k v) (first + k)
      (leField v (16 * k) 8, leField v (16 * k + 8) 4)) ∧
  ∀ (d : Descriptor) (w : SegWindow) (i a len : Nat),
    (∀ p, w.mismatch = some p → SegWindow.place d w i (a, len) = w) ∧ (w.mismatch = none →
    let bad := len = 0 ∨ 65536 < len ∨ 2 ^ 48 < a + len ∨ d.byteCount < w.sum + len
    let kept := { w with
      entries := w.entries ++ [{ index := i, addr := BitVec.ofNat 48 a, length := len }], sum := w.sum + len }
    (bad → SegWindow.place d w i (a, len) = { w with mismatch := some (i, .segmentMismatch) }) ∧
    (¬bad → i + 1 = d.entryCount → w.sum + len < d.byteCount →
      SegWindow.place d w i (a, len) = { kept with mismatch := some (d.entryCount, .segmentMismatch) }) ∧
    (¬bad → i + 1 ≠ d.entryCount → w.sum + len = d.byteCount →
      SegWindow.place d w i (a, len) = { kept with mismatch := some (i + 1, .segmentMismatch) }) ∧
    (¬bad → (i + 1 = d.entryCount ↔ w.sum + len = d.byteCount) → SegWindow.place d w i (a, len) = kept))

/-! ### Lines -/

/-- A fill that ends at a FILLING line makes that line READY with the bytes read, or FAILED with MEMORY_READ_ERROR, and
touches no other line itself (R42, R94). A FAILED line at the front of the list of a CURRENT SEND, with no byte under
way, fails the SEND in the same event: the line is FREE, the link holds, and the copy is FAILED with MEMORY_READ_ERROR
and the bytes sent; a MEMORY event names the link, the copy's tag and the line's address (R46, R97, R142). Where that
copy is at the front of the window it offers its hold record in the event (R126, R145). -/
def Obligations.FillEnds : Prop :=
  ∀ (s : State) (tag : BusNo) (v : Vector Byte 64) (lv : Levels) (i : LineId) (n : LinkId),
    s.Holds .read tag (.fill i) → s.partState = .running → (s.line i).owner = some n → (s.line i).state = .filling →
    (∃ x : Line, exec (.fillEnd tag (.data v) lv) s =
        .next (State.serveLink n ((s.freed .read tag lv).modLine i fun _ => x)).acceptOffers ∧
      x = { s.line i with state := .ready, data := x.data } ∧
      ∀ j : Fin 64, x.data[j] = if (j : Nat) < (s.line i).length then v[j] else (s.line i).data[j]) ∧
    exec (.fillEnd tag .error lv) s = .next (State.serveLink n ((s.freed .read tag lv).modLine i fun x =>
      { x with state := .failed, error := some .memoryReadError })).acceptOffers ∧
    ∀ (c : Copy) (is : List LineId), (s.unit n).current = some c → (s.link n).state = .running →
      (s.link n).sub = .sending → (s.link n).dir = .outbound → (s.link n).phase = .none →
      (s.link n).lines = i :: is → (s.line i).descSlot = c.slot →
      (∀ r, (s.unit n).statusRing = some r → (s.ring (.s r)).state ≠ .failed) →
      ∃ t, exec (.fillEnd tag .error lv) s = .next t.acceptOffers ∧ (s.freed .read tag lv).OnlyLinks t ∧
        (t.link n).state = .holding ∧ (t.link n).holdCause = some .error ∧ (t.link n).heldCopy = some c.slot ∧
        (t.link n).sub = .idle ∧ (t.line i).state = .free ∧ (t.line i).owner = none ∧
        (t.link n).descFailed = addCounter (s.link n).descFailed 1 ∧
        t.errorLog = s.errorLog.after {
          cls := .memory, code := .memoryReadError, source := .link n, tag := some c.tag,
          address := some (s.line i).address, detail := none } ∧
        (∀ cs, (s.unit n).window = c :: cs → s.MayOffer n → (s.freed .read tag lv).HoldOffered n c.slot c.tag
          .memoryReadError (s.link n).sentCount .absent t) ∧
        ∃ x, (t.unit n).copy c.slot = some x ∧ x.exec = .failed ∧ x.outcome = some .memoryReadError ∧
          x.detail = .absent ∧ x.bytesDone = some (s.link n).sentCount

/-- Any fill end at a DISCARD_PENDING line frees the line and takes it out of its owner's list; in RUNNING it counts in
LINES_DISCARDED, in HALTED it does not (R43, R60, R61). -/
def Obligations.DiscardedFillEnds : Prop :=
  ∀ (s : State) (tag : BusNo) (e : ReadEnd) (lv : Levels) (i : LineId) (n : LinkId),
    s.Holds .read tag (.fill i) → e ≠ .timeout → (s.line i).owner = some n →
    (s.line i).state = .discardPending →
    let t := ((s.freed .read tag lv).modLink n fun l => { l with lines := l.lines.erase i }).modLine i fun x =>
      { state := .free, owner := none, descSlot := 0, address := 0, length := 0, offset := 0, error := none,
        last := false, startOffset := 0, data := x.data }
    (s.partState = .running → exec (.discardPendingFillEnd tag e lv) s = .next (State.serveLink n
      (t.modLink n fun l => { l with linesDiscarded := addCounter l.linesDiscarded 1 })).acceptOffers) ∧
    (s.partState = .halted → exec (.discardPendingFillEnd tag e lv) s = .next t)

/-- A store that ends with DONE frees its line and raises BYTES_IN by the line's length (R50, R114, R122). Where it
empties the list of a CURRENT RECEIVE that has gathered all it will, at its byte_count or because ATTN ended it, the
RECEIVE completes in the same event, with OK or ENDED_EARLY and its gathered count, and at the front it offers its
COMPLETION (R13, R115, R116); that its store cursor is then idle is the model's choice (log 13). A store that ends with
ERROR frees its line too, moves the break position back to the line where that is earlier (the SEALED lines behind it,
discarded with it, lie later: R144), logs a MEMORY event, and fails the CURRENT RECEIVE of a RUNNING link, which holds
(R50, R118, R142). Either end that empties the list of a RECEIVE which has failed or been cancelled fixes its
bytes_done, the smaller of the gathered count and the break position (R120); at the front it offers its record in the
event: the failed one its hold record (R126, R145), one cancelled in QUIESCING its COMPLETION (R156). -/
def Obligations.StoreEnds : Prop :=
  ∀ (s : State) (slot : BusNo) (lv : Levels) (i : LineId) (n : LinkId),
    s.Holds .write slot (.store i) → s.partState = .running → (s.line i).owner = some n →
    (s.line i).state = .storing →
    exec (.storeDone slot lv) s = .next (State.serveLink n
      (((((s.freed .write slot lv).modLink n fun l =>
          { l with bytesIn := addCounter l.bytesIn (s.line i).length })).modLink n fun l =>
        { l with lines := l.lines.erase i }).modLine i fun x => Line.freeWith x.data)).acceptOffers ∧
    (∀ (c : Copy) (cs : List Copy), (s.unit n).window = c :: cs → c.exec = .current → c.kind = some .receive →
      c.quiet = false → (s.link n).state = .running → (s.link n).holdCause = none → (s.link n).dir = .inbound →
      (s.link n).sub = .receiving → (s.link n).gathering = false →
      ((s.link n).endCause = .count ∨ (s.link n).endCause = .attn) →
      (s.unit n).storeWindow.mismatch = none → (s.link n).lines = [i] → s.MayOffer n →
      let o : Code := if (s.link n).endCause = .count then .ok else .endedEarly
      ∃ t, exec (.storeDone slot lv) s = .next t.acceptOffers ∧ (s.freed .write slot lv).OnlyLinks t ∧
        (t.unit n).window.head? = some { c with
          exec := .doneUnretired, outcome := some o, bytesDone := some (s.link n).gathered } ∧
        (t.link n).sub = .idle ∧ (t.link n).storeCursor = .idle ∧ (t.link n).lines = [] ∧
        (t.link n).descOk = addCounter (s.link n).descOk (if o = .ok then 1 else 0) ∧ (t.line i).state = .free ∧
        (t.link n).offers = (s.link n).offers ++ [{
          purpose := .retire
          record := { kind := .completion, source := .link n, tag := c.tag, outcome := o,
                      bytesDone := (s.link n).gathered, ringHead := (c.slot + 1) % (s.unit n).size,
                      snapshot := t.snapshotOf n, holdCause := none, detail := .absent } }]) ∧
    (∃ t, exec (.storeFailure slot .error lv) s = .next (State.serveLink n t).acceptOffers ∧
      (s.freed .write slot lv).StoreFailed n i .memoryWriteError t) ∧
    ∀ (c : Copy) (cs : List Copy) (failed : Bool), (s.unit n).window = c :: cs → c.kind = some .receive →
      c.bytesDone = none → ((s.link n).state = .holding ∨ (s.link n).state = .quiescing) →
      (s.link n).gathering = false → (s.link n).lines = [i] →
      let broken := if failed then min ((s.link n).breakPos.getD (s.line i).startOffset) (s.line i).startOffset
        else (s.link n).breakPos.getD (s.link n).gathered
      let bytes := min (s.link n).gathered broken
      let row : Instr := if failed then .storeFailure slot .error lv else .storeDone slot lv
      (c.exec = .failed → (s.link n).heldCopy = some c.slot → (s.link n).holdRecord = .owed → s.MayOffer n →
        ∃ t, exec row s = .next t.acceptOffers ∧ (t.link n).state = (s.link n).state ∧
          (t.unit n).window.head? = some { c with bytesDone := some bytes } ∧
          (s.freed .write slot lv).HoldOffered n c.slot c.tag (c.outcome.getD .ok) bytes c.detail t) ∧
      (c.exec = .doneUnretired → c.outcome = some .cancelled → (s.link n).state = .quiescing → s.MayOffer n →
        ∃ t, exec row s = .next t.acceptOffers ∧ (s.freed .write slot lv).OnlyLinks t ∧
          (t.link n).state = .quiescing ∧ (t.unit n).window.head? = some { c with bytesDone := some bytes } ∧
          (t.link n).offers = (s.link n).offers ++ [t.cancelledOffer n c bytes]) ∧
      (c.exec = .doneUnretired → c.outcome = some .cancelled → (s.link n).state = .holding →
        (s.link n).holdCause = some .statusLost → ∃ t, exec row s = .next t.acceptOffers ∧
          (s.freed .write slot lv).OnlyLinks t ∧ (t.unit n).window.head? = some { c with bytesDone := some bytes })

/-! ### Status rings -/

/-- A status write that ends with DONE: the record counts as unreleased unless the released head has passed its slot,
and the interrupt state acts by the table of R134; a write of a ring deleted since changes nothing (R124, R130, R134).
The layout of the 16 bytes that such a write carries, and the values of the codes (sections 11.6.4 and 11.6.5). -/
def Obligations.StatusWriteEnds : Prop :=
  (∀ (s : State) (slot : BusNo) (lv : Levels) (r : RingId) (k : Nat) (live : Bool),
    s.Holds .write slot (.status r k live) → s.partState = .running → s.OfferInv →
    let x := s.ring r
    let y := { x with
      writeOutstanding := none
      unreleased := if x.releasedHead = x.tail then x.unreleased else x.unreleased + 1 }
    (live = false → exec (.statusWriteDone slot lv) s = .next (s.freed .write slot lv)) ∧
    (live = true → ∃ z, exec (.statusWriteDone slot lv) s = .next ((s.freed .write slot lv).modRing r fun _ => z) ∧
      ((x.msgAddr = 0 ∨ x.intState = .signalled) → z = y) ∧
      (x.msgAddr ≠ 0 → x.intState = .armed → x.modCount ≤ 1 →
        z = { y with msgDue := true, intState := .signalled, modTimer := none }) ∧
      (x.msgAddr ≠ 0 → x.intState = .armed → 1 < x.modCount →
        z = { y with
          intState := .moderating, written := 1,
          modTimer := if x.modDelay = 0 then none else some x.modDelay }) ∧
      (x.msgAddr ≠ 0 → x.intState = .moderating → x.written + 1 < x.modCount →
        z = { y with written := x.written + 1 }) ∧
      (x.msgAddr ≠ 0 → x.intState = .moderating → x.modCount ≤ x.written + 1 →
        z = { y with written := x.written + 1, msgDue := true, intState := .signalled, modTimer := none }))) ∧
  (∀ (x : StatusRecord) (phase : Bool),
    let f := fieldOf (x.bytes phase)
    let p := x.snapshot
    (x.bytes phase).length = 16 ∧
    f 0 1 = (if phase then 1 else 0) + 2 * (match x.kind with | .completion => 1 | .event => 2 | .result => 3) +
      16 * (match x.source with | .link n => (n : Nat) | .control => 8) ∧
    f 1 1 = x.outcome.value ∧ f 2 2 = x.tag.toNat ∧ (x.bytesDone < 2 ^ 32 → f 4 4 = x.bytesDone) ∧
    (x.ringHead < 2 ^ 16 → f 8 2 = x.ringHead) ∧
    f 10 1 = (if p.busy then 1 else 0) + (if p.ack then 2 else 0) + (if p.attn then 4 else 0) +
      (if p.fault then 8 else 0) + (if p.dir then 16 else 0) + (if p.ctl0 then 32 else 0) +
      (if p.ctl1 then 64 else 0) + (if p.latch then 128 else 0) ∧
    f 11 1 = (match x.holdCause with | none => 0 | some .error => 1 | some .pause => 2 | some .statusLost => 3) ∧
    ((∀ i, x.detail = .segment i → i ≤ 64) → (f 12 1, f 13 1) = match x.detail with
      | .absent => (0, 0)
      | .invalidCode e => (1, match e with
        | .kind => 1 | .count => 2 | .form => 3 | .address => 4 | .mode => 5 | .signalField => 6)
      | .segment i => (2, i)
      | .fetch => (3, 0)
      | .errorClass e => (4, match e with
        | .descriptor => 1 | .memory => 2 | .link => 3 | .register => 4 | .message => 5 | .bus => 6 | .fatal => 7)
      | .commandCode e => (5, e.toNat)) ∧
    f 14 2 = 0) ∧
  ∀ o : Code, o.value = match o with
    | .ok => 0x00 | .endedEarly => 0x01 | .waitExpired => 0x02 | .cancelled => 0x03 | .descriptorInvalid => 0x10
    | .segmentMismatch => 0x11 | .memoryReadError => 0x20 | .memoryWriteError => 0x21 | .memoryTimeout => 0x22
    | .linkTimeout => 0x30 | .linkFault => 0x31 | .linkOverrun => 0x32 | .attention => 0x40 | .errorNotice => 0x41
    | .refusedState => 0x50 | .refusedRange => 0x51 | .refusedInUse => 0x52 | .resourcesUnavailable => 0x53
    | .unknownCommand => 0x54 | .notifyRange => 0x60 | .notifyUnbound => 0x61 | .notifyRetract => 0x62
    | .releaseRange => 0x63 | .unsolicitedOverrun => 0x64 | .messageWriteFailed => 0x65 | .lateResponse => 0x66
    | .tagsExhausted => 0x67 | .statusWriteFailed => 0x68 | .startReadFailed => 0x69 | .startInvalid => 0x6A
    | .controlFetchFailed => 0x6B

/-- A status write of SC that ends with ERROR halts the part with STATUS_WRITE_FAILED and logs a FATAL event with the
slot's address, without a notice; no pending record is counted as discarded (R131, R139, R198). Every status ring keeps
all but its timer; that SC also keeps the slot of the failed write as its write outstanding is the model's choice (log
30). -/
def Obligations.StatusWriteHalts : Prop :=
  ∀ (s : State) (slot : BusNo) (lv : Levels) (k : Nat),
    s.Holds .write slot (.status .sc k true) → s.partState = .running →
    ∃ t, exec (.statusWriteFailed slot .error lv) s = .next t ∧
      (s.freed .write slot lv).HaltedFrom .statusWriteFailed {
        cls := .fatal, code := .statusWriteFailed, source := .ring .sc, tag := none,
        address := some (s.sc.base + BitVec.ofNat 48 (16 * k)), detail := none } t

/-- A status write of S0 to S3 that ends with ERROR makes the ring FAILED with an empty list, its timer stopped and its
message cleared, and the part runs on; the failed record, the pending ones and the standing offers are counted, and a
MEMORY event is logged; but for that only what an event inside a link may change does (R132, R140). Where no link
reports to the ring, or one without an offer, nothing else changes, and a link that reports to another ring does not.
Each link that reports to it has its offers discarded, and RUNNING, HOLDING or HELD it is HOLDING or HELD with
STATUS_LOST then. Where one link alone does: RUNNING, it enters HOLDING with its work cancelled, and if it is settled,
its STATUS_LOST record is discarded too and it is HELD; HOLDING or HELD, only its cause changes, and the discard of a
held copy's record ends HOLDING (R149). State.RingFails says all this. An offer made later is discarded and counted at
once: a RUNNING link enters HOLDING in the same way, with the cancellation of its work, one in HOLDING, or in HELD
without a FLUSH, changes its cause, and one that cancels its window takes it as accepted; a hold record counts as
answered (R132, R149, R154 to R156); that the PAUSE record of a copy just retired finds its link HELD is the model's
(log 38, DESIGN CHOICE). That a cancelled SEND is CANCELLED also where its last byte is sent in this event is log 12
(DEDUCED), that the store cursor is idle at once log 37 (DESIGN CHOICE; State.GivenUp). -/
def Obligations.StatusRingFails : Prop :=
  (∀ (s : State) (slot : BusNo) (lv : Levels) (n : LinkId) (k : Nat),
    s.Holds .write slot (.status (.s n) k true) → s.partState = .running →
    ∃ t, exec (.statusRingFailure slot .error lv) s = .next t.acceptOffers ∧
      (s.freed .write slot lv).RingFails n k .memoryWriteError t) ∧
  ∀ (s : State) (n r : LinkId) (o : Offer), (s.unit n).statusRing = some r → (s.ring (.s r)).state = .failed →
    let l := s.link n
    let t := s.putOffer n o
    let answered : Link :=
      { l with
        holdRecord := if o.purpose = .retire ∨ o.purpose = .attention then l.holdRecord else .done
        attnOwed := if o.purpose = .attention then false else l.attnOwed }
    (l.state = .running → (o.purpose = .retire ∨ o.purpose = .attention) →
      s.GivenUp n t ∧ (t.link n).state = .holding ∧ (t.link n).holdCause = some .statusLost ∧
      (t.link n).heldCopy = none ∧ (t.link n).holdRecord = .owed ∧ (t.link n).attnOwed = answered.attnOwed ∧
      (t.link n).offers = l.offers ∧ t.errorLog = s.errorLog ∧
      t.recordsDiscarded = addCounter s.recordsDiscarded 1) ∧
    let counted := { s with recordsDiscarded := addCounter s.recordsDiscarded 1 }
    let lost := counted.modLink n fun _ => { answered with holdCause := some .statusLost }
    ((l.state = .holding ∨ l.state = .held ∧ l.cancellation ≠ .flush) → t = lost) ∧
    (l.state = .held → l.cancellation = .flush → t = if o.purpose = .retire then lost.retireFront n else lost) ∧
    (l.state = .quiescing →
      let taken := counted.modLink n fun _ => answered
      t = if o.purpose = .retire ∨ o.purpose = .holdRecord then taken.retireFront n else taken)

/-- A message write that ends, either way, clears message outstanding; ERROR logs MESSAGE_WRITE_FAILED with the message
address; the interrupt state does not change (R138). The moderation timer of a MODERATING ring makes a message due
(R134). -/
def Obligations.MessagesEnd : Prop :=
  (∀ (s : State) (slot : BusNo) (lv : Levels) (r : RingId), s.Holds .write slot (.message r true) →
    s.partState = .running →
    let t := (s.freed .write slot lv).modRing r fun x => { x with msgOutstanding := false }
    (s.OfferInv → exec (.messageWriteEnd slot .done lv) s = .next t) ∧
    exec (.messageWriteEnd slot .error lv) s = .next (t.logEvent
      { cls := .message, code := .messageWriteFailed, source := .ring r, tag := none,
        address := some (s.writeSlot slot).address, detail := none }).acceptOffers) ∧
  ∀ (s : State) (r : RingId), s.resetHeld = false → s.partState = .running → (s.ring r).intState = .moderating →
    (s.ring r).modTimer ≠ none → s.OfferInv →
    exec (.moderationTimerExpiry r) s = .next (s.modRing r fun x =>
      { x with msgDue := true, intState := .signalled, modTimer := none })

/-! ### The system bus master -/

/-- The expiry of a response timer. The tag or slot is STALE with its address and length, its route gone; every other
one is as it was; and all being STALE is exactly what the exhaustion flag says. The bus master reports the timeout with
an event of class BUS, MEMORY_TIMEOUT reaches the requester, and where this was the last tag or slot TAGS_EXHAUSTED is
logged (R185, R187); the spec leaves the order of these open (R159, log 7), but that the BUS event of a fill comes
before the failure of its SEND (R97). What MEMORY_TIMEOUT does at each requester: a fill, a discarded one, a store, a
descriptor fetch, a re-read, a table read, a command fetch, a status write, a message, and the writes of READ COUNTERS
and READ ERROR LOG (R9, R17, R28, R30, R42, R43, R50, R118, R124, R131, R132, R138, R164, R177, R179, R191; the start
record read is in StartRecordRefused, a timeout in RESETTING in SettleEndsInDormant). That SC keeps the slot of its
failed status write as its write outstanding in HALTED is log 30 (DESIGN CHOICE). That a SEND which the failure of S0 to
S3 cancels is CANCELLED also where its last byte is sent in this event is log 12 (DEDUCED), that the store cursor is
idle at once log 37 (DESIGN CHOICE; State.RingFails, State.GivenUp). -/
def Obligations.ResponseTimesOut : Prop :=
  (∀ (s : State) (k : BusKind) (i : BusNo) (lv : Levels), s.PartInv → s.resetHeld = false →
    s.partState ≠ .resetting → (s.ident k i).state = .busy →
    let x := s.ident k i
    let detail (number : Nat) : Option Word :=
      some (BitVec.ofNat 32 (number + match k with | .read => 0 | .write => 256))
    let report (t : State) : State := t.logEvent { cls := .bus, code := .memoryTimeout, source := .bus, tag := none,
                                                   address := some x.address, detail := detail i }
    let requester (t : State) : State := State.routeTimeout k x t
    let last := ∀ j, j ≠ i → (s.ident k j).state = .stale
    ∃ (exhausted : State → State) (acts : List (State → State)) (m : Nat),
      (last → ∀ t, exhausted t = (t.setExhausted k true).logEvent { cls := .bus, code := .tagsExhausted, source := .bus,
                                                                    tag := none, address := none, detail := detail 0 }) ∧
      (¬last → ∀ t, exhausted t = t) ∧ acts.Perm [report, requester, exhausted] ∧
      ((∃ l, x.route = some (.fill l)) → acts = [report, requester, exhausted] ∨
        acts = [report, exhausted, requester] ∨ acts = [exhausted, report, requester]) ∧
      let u := acts.foldl (fun t f => f t) { (s.sense lv).modIdent k i fun y =>
        { y with state := .stale, route := none, timer := none, data := [] } with openValues := m }
      exec (.responseTimeout k i lv) s = .next u.acceptOffers ∧
        u.ident k i = { x with state := .stale, route := none, timer := none, data := [] } ∧
        (∀ k' j, (k' ≠ k ∨ j ≠ i) → u.ident k' j = s.ident k' j) ∧
        (u.exhausted k = true ↔ ∀ j, (u.ident k j).state = .stale) ∧ u.lateResponses = s.lateResponses ∧
        u.errorLog.first ≠ none ∧ u.errorLog.sinceCapture = true) ∧
  ∀ (t : State) (x : Ident), t.partState = .running →
    let reads := State.routeTimeout .read x t
    let writes := State.routeTimeout .write x t
    let memory (source : LogSource) (a : Addr) : ErrorEvent :=
      { cls := .memory, code := .memoryTimeout, source := source, tag := none, address := some a, detail := none }
    (∀ l n, x.route = some (.fill l) → (t.line l).owner = some n →
      ((t.line l).state = .filling → reads = State.serveLink n (t.modLine l fun y =>
        { y with state := .failed, error := some .memoryTimeout })) ∧
      ((t.line l).state = .discardPending → reads = State.serveLink n ((t.modLink n fun y =>
        { y with lines := y.lines.erase l, linesDiscarded := addCounter y.linesDiscarded 1 }).modLine l fun y =>
        Line.freeWith y.data))) ∧
    (∀ l n, x.route = some (.store l) → (t.line l).owner = some n → (t.line l).state = .storing →
      ∃ u, writes = State.serveLink n u ∧ t.StoreFailed n l .memoryTimeout u) ∧
    (∀ n slot count, x.route = some (.descriptor n slot count) →
      let u := (t.modUnit n fun y => { y with fetchOutstanding := false }).logEvent
        (memory (.ringUnit n) ((t.unit n).base + BitVec.ofNat 48 (32 * slot)))
      ((t.link n).state = .quiescing → reads = State.serveLink n (u.modUnit n fun y => { y with fetched := slot })) ∧
      ((t.link n).state ≠ .quiescing → reads = State.serveLink n (u.modUnit n fun y =>
        { y with
          fetched := (slot + 1) % y.size
          window := y.window ++ [{
            slot := slot, desc := none, verdict := .unreadable .timeout, inlineMismatch := false, exec := .waiting,
            outcome := none, detail := .absent, bytesDone := none }] }))) ∧
    (∀ n slot c cs, x.route = some (.reread n slot) → (t.unit n).reread = .outstanding → (t.unit n).window = c :: cs →
      c.slot = slot → c.exec = .failed → (t.link n).state = .running →
      ∃ u, reads = State.serveLink n u ∧ (u.link n).state = .holding ∧ (u.link n).heldCopy = some slot ∧
        (u.link n).descFailed = addCounter (t.link n).descFailed 1 ∧
        u.errorLog = t.errorLog.after (memory (.ringUnit n) ((t.unit n).base + BitVec.ofNat 48 (32 * slot))) ∧
        (u.unit n).copy slot = some {
          slot := slot, desc := none, verdict := .unreadable .timeout, inlineMismatch := false, exec := .failed,
          outcome := some .memoryTimeout, detail := .fetch, bytesDone := some 0 }) ∧
    (∀ n j first count, x.route = some (.table n j first count) →
      let u := t.modSegWindow n j fun w => { w with read := .none }
      ((t.segWindow n j).read ≠ .live → reads = u) ∧
      ((t.segWindow n j).read = .live → reads = State.serveLink n ((u.modSegWindow n j fun w =>
        { w with next := first, mismatch := some (first, .memoryTimeout) }).logEvent
        (memory (.ringUnit n) x.address)))) ∧
    (x.route = some .command → t.control.state = .fetching → t.HaltedFrom .controlFetchFailed {
      cls := .fatal, code := .controlFetchFailed, source := .control, tag := none, address := some x.address,
      detail := none } reads) ∧
    (∀ slot, x.route = some (.status .sc slot true) → t.HaltedFrom .statusWriteFailed {
      cls := .fatal, code := .statusWriteFailed, source := .ring .sc, tag := none,
      address := some (t.sc.base + BitVec.ofNat 48 (16 * slot)), detail := none } writes) ∧
    (∀ n slot, x.route = some (.status (.s n) slot true) → t.RingFails n slot .memoryTimeout writes) ∧
    (∀ r, x.route = some (.message r true) → writes =
      (t.modRing r fun y => { y with msgOutstanding := false }).logEvent
        { cls := .message, code := .messageWriteFailed, source := .ring r, tag := none, address := some x.address,
          detail := none }) ∧
    (∀ r slot, x.route = some (.status r slot false) ∨ x.route = some (.message r false) → writes = t) ∧
    ∀ c, t.control.state = .executing → t.control.current = some c →
      (∀ b, x.route = some (.counters b) →
        let other := if b then t.control.write0 else t.control.write1
        let u := (t.modControl fun y =>
          { y with
            write0 := if b then y.write0 else .ended, write1 := if b then .ended else y.write1
            failure := some (y.failure.getD .memoryTimeout) }).logEvent (memory .control x.address)
        (other ≠ .ended → writes = u) ∧
        (other = .ended → writes = u.endCommand (t.control.failure.getD .memoryTimeout))) ∧
      (x.route = some .log → writes = (t.logEvent (memory .control x.address)).endCommand .memoryTimeout)

/-- A late response frees a STALE tag or slot, clears the exhaustion flag, counts and is logged with the stored
address; one for a FREE tag or slot counts and is logged without address (R186, R187); for a BUSY one it is no late
response and nothing happens (log 5, the model's choice). -/
def Obligations.LateResponseFrees : Prop :=
  ∀ (s : State) (k : BusKind) (i : BusNo), s.resetHeld = false →
    let detail := some (BitVec.ofNat 32 ((i : Nat) + match k with | .read => 0 | .write => 256))
    ((s.ident k i).state = .stale → exec (.lateResponse k i) s =
      .next (((s.modIdent k i fun x => { Ident.reset with cls := x.cls }).setExhausted k false).countLate.logEvent
        { cls := .bus, code := .lateResponse, source := .bus, tag := none, address := some (s.ident k i).address,
          detail := detail }).acceptOffers) ∧
    ((s.ident k i).state = .free → exec (.lateResponse k i) s = .next (s.countLate.logEvent
        { cls := .bus, code := .lateResponse, source := .bus, tag := none, address := none,
          detail := detail }).acceptOffers) ∧
    ((s.ident k i).state = .busy → s.OfferInv → exec (.lateResponse k i) s = .next s) ∧
    s.countLate.lateResponses.toNat = min (s.lateResponses.toNat + 1) 0xFFFFFFFF

/-- The class arbiter acts (log 4): the request of the highest class that waits takes the lowest-numbered FREE tag or
slot, which is BUSY with it and its 1 ms timer; every other one is as it was. Class A goes to the group, and in it to
the first member after the member pointer with a request, in the order control processor, SC, S0 to S3; class B or C
goes to the first link after the class pointer with one, the group standing behind link 3; the pointers of that class
move to the requester and member granted (R189). A class C grant leaves at most 6 of them BUSY with class C. The
requester notes the issue: the fetched position moves past the slots read, one or two (R7), the line is STORING (R49),
the status ring's tail and, at a wrap, its phase move past the record, which leaves the pending list so that one waiting
offer enters (R128, R129); a RESULT that enters so moves the control processor on (R166; that the outcome goes with the
copy is log 32, DEDUCED). The arbiter then acts again in the same event, until no tag or slot is FREE or no request
waits (R183, R188). Each request has the address, the length and, for a write, the data that its rule gives: the start
record, a command, one or two descriptor slots, a re-read slot, table entries up to the next 64-byte boundary, a line's
range with the bytes stored, a status record, a message's data, the halves of a counter block, the error log record. -/
def Obligations.RequestIssued : Prop :=
  ∀ (s : State) (k : BusKind) (lv : Levels), s.resetHeld = false →
    let s' := s.sense lv
    let place (m : Member) : Nat := match m with | .control => 0 | .ring .sc => 1 | .ring (.s n) => 2 + n
    let seat (q : Requester) : Nat := match q with | .link n => n | .group => 4
    let memberPtr := match k with | .read => s.pointers.memberRead | .write => s.pointers.memberWrite
    let classPtr (x : ReqClass) : Requester :=
      match k, x with
      | .read, .b => s.pointers.bRead
      | .read, _ => s.pointers.cRead
      | .write, _ => s.pointers.cWrite
    let after (x : ReqClass) (n : LinkId) : Nat := ((n : Nat) + 4 - seat (classPtr x)) % 5
    ((s'.lowestFree k = none ∨ s'.nextRequest k = none) → s.OfferInv → exec (.requestIssue k lv) s = .next s') ∧
    (∃ u : State, exec (.requestIssue k lv) s = .next u.acceptOffers ∧
      (u.lowestFree k = none ∨ u.nextRequest k = none)) ∧
    ∀ (i : BusNo) (c : Choice), s'.lowestFree k = some i → s'.nextRequest k = some c →
      (s.ident k i).state = .free ∧ (∀ j, j < i → (s.ident k j).state ≠ .free) ∧
      (c.cls = .a → c.requester = .group ∧ ∃ m, c.member = some m ∧ s'.memberRequest k m = some c.request ∧
        ∀ m', (place m' + 5 - place memberPtr) % 6 < (place m + 5 - place memberPtr) % 6 →
          s'.memberRequest k m' = none) ∧
      (c.cls ≠ .a → (∀ m, s'.memberRequest k m = none) ∧ ∃ n, c.requester = .link n ∧
        s'.linkRequest k c.cls n = some c.request ∧
        ∀ m, after c.cls m < after c.cls n → s'.linkRequest k c.cls m = none) ∧
      (c.cls = .c → (∀ n, s'.linkRequest k .b n = none) ∧ s.busyC k < 6) ∧
      ∃ t, exec (.requestIssue k lv) s = .next (State.issueUpTo k 7 t).acceptOffers ∧
        t.ident k i = { state := .busy, cls := some c.cls, address := c.request.address, length := c.request.length,
                        route := some c.request.route, timer := some 1, data := c.request.data } ∧
        (∀ k' j, (k' ≠ k ∨ j ≠ i) → t.ident k' j = s.ident k' j) ∧
        (∀ m, c.member = some m → t.pointers = match k with
          | .read => { s.pointers with aRead := .group, memberRead := m }
          | .write => { s.pointers with aWrite := .group, memberWrite := m }) ∧
        (∀ n, c.requester = .link n → t.pointers = match k, c.cls with
          | .read, .b => { s.pointers with bRead := .link n }
          | .read, _ => { s.pointers with cRead := .link n }
          | .write, _ => { s.pointers with cWrite := .link n }) ∧
        let reads (a : Addr) (len : Nat) : Prop :=
          c.request.address = a ∧ c.request.length = len ∧ c.request.data = []
        let writes (a : Addr) (len : Nat) (data : List Byte) : Prop :=
          c.request.address = a ∧ c.request.length = len ∧ c.request.data = data
        match c.request.route with
        | .descriptor n slot count =>
          let u := s.unit n
          slot = u.fetched ∧ reads (u.base + BitVec.ofNat 48 (32 * slot)) (32 * count) ∧
          count = (if slot % 2 = 0 ∧ u.fetchedCount + 2 ≤ u.posted ∧ u.fetchedCount ≤ 2 then 2 else 1) ∧
          t.links = s.links ∧ t.unit n = { u with fetched := (slot + count) % u.size, fetchOutstanding := true }
        | .reread n slot => slot = (s.unit n).head ∧ reads ((s.unit n).base + BitVec.ofNat 48 (32 * slot)) 32 ∧
          t.links = s.links ∧ t.unit n = { s.unit n with reread := .outstanding, fetchOutstanding := true }
        | .table n j first count => first = (s.segWindow n j).next ∧
          (∃ d, s.cursorDesc n j = some d ∧
            reads (BitVec.ofNat 48 (d.tableAddr + 16 * first)) (16 * count) ∧
            count = min (min (d.entryCount - first) (4 - (s.segWindow n j).entries.length))
              ((64 - (d.tableAddr + 16 * first) % 64) / 16)) ∧
          t.links = s.links ∧ t.segWindow n j = { s.segWindow n j with next := first + count, read := .live }
        | .store l =>
          (∃ n, c.requester = .link n ∧ (s.link n).lines.find? (fun j => (s.line j).state = .sealed) = some l) ∧
          writes (s.line l).address (s.line l).length ((s.line l).data.toList.take (s.line l).length) ∧
          t.line l = { s.line l with state := .storing } ∧ t.links = s.links ∧ t.units = s.units
        | .status r slot _ => slot = (s.ring r).tail ∧ (t.ring r).writeOutstanding = some slot ∧
          (t.ring r).tail = (slot + 1) % (s.ring r).size ∧
          (t.ring r).phase = (if (slot + 1) % (s.ring r).size = 0 then !(s.ring r).phase else (s.ring r).phase) ∧
          ∃ rec recs more, (s.ring r).pending = rec :: recs ∧
            writes ((s.ring r).base + BitVec.ofNat 48 (16 * slot)) 16 (rec.bytes (s.ring r).phase) ∧
            (t.ring r).pending = recs ++ more ∧ more.length ≤ 1 ∧
            ∀ result, r = .sc → s.sc.pending.length ≤ 8 → s.nextProducer .sc = some .control →
              s.control.resultOffer = some result → more = [result] ∧ t.control = s.control.answered
        | .message r _ => writes (s.ring r).msgAddr 4 c.request.data ∧ c.request.data.length = 4 ∧
          fieldOf c.request.data 0 4 = (s.ring r).msgData.toNat ∧
          t.ring r = { s.ring r with msgDue := false, msgOutstanding := true } ∧ t.links = s.links
        | .counters second =>
          (∃ v, s.control.capture = .counters v ∧ ∀ x, s.control.current = some x →
            writes (BitVec.ofNat 48 (leField x 8 8) + if second then 64 else 0) 64
              (if second then (counterBlock v).drop 64 else (counterBlock v).take 64)) ∧
          t.control = if second then { s.control with write1 := .issued }
            else { s.control with write0 := .issued, write1 := .offered }
        | .log =>
          (∃ x, s.control.capture = .log x ∧ ∀ y, s.control.current = some y →
            writes (BitVec.ofNat 48 (leField y 8 8)) 32 x.bytes) ∧
          t.control = { s.control with write0 := .issued }
        | .fill l =>
          (∃ n, c.requester = .link n ∧
            (s.link n).lines.find? (fun j => (s.line j).state = .filling ∧ s.fillIssued j = false) = some l) ∧
          reads (s.line l).address (s.line l).length ∧
          t.lines = s.lines ∧ t.links = s.links ∧ t.units = s.units ∧ t.control = s.control
        | .command =>
          reads (s.control.base +
            BitVec.ofNat 48 (32 * ((s.control.fetched + s.control.size - 1) % s.control.size))) 32 ∧
          t.lines = s.lines ∧ t.links = s.links ∧ t.units = s.units ∧ t.control = s.control
        | .startRecord => (∃ a, s.startRead = some a ∧ reads a 64) ∧
          t.lines = s.lines ∧ t.links = s.links ∧ t.units = s.units ∧ t.control = s.control

/-! ### The arbiters of lines, records and copies -/

/-- One grant of the pool arbiter, a step of its own (log 4): the first link after the pointer whose request may be
met gets the lowest-numbered FREE line, cut at the next segment end or 64-byte boundary, at the back of its list; the
pointer moves to that link. A request may be met below the link's ceiling, either below its reserve or where the FREE
lines but one cover the shortfalls of the other links (R55). The link's cursor moves past the piece: in the segment, to
the next one, or to the end of the descriptor, and a table entry that the piece ends leaves the segment window (R25,
R39, R91, R107). An outbound line that ends its descriptor carries the mark, an inbound one carries none yet (R40), and
has the gathered count as its start offset (R109). A WAITING copy whose first line this is enters FILLING_AHEAD (R93);
an inbound link's handshake timer starts (R77, R109). Without such a link or line nothing changes (R39, R41, R47, R55,
R57). -/
def Obligations.LineGranted : Prop :=
  ∀ (s : State) (lv : Levels), s.resetHeld = false →
    let s' := s.sense lv
    let owned (m : LinkId) : Nat := (s.link m).lines.length
    let reserve (m : LinkId) : Nat := (s.link m).config.reserve
    (∀ m, s'.grantAllowed m = true ↔ s'.lineWanted m = true ∧ owned m < (s.link m).config.ceiling ∧
      s'.freeLines ≠ [] ∧ (owned m < reserve m ∨
        ((allLinks.filter (· ≠ m)).map fun j => reserve j - owned j).sum ≤ s'.freeLines.length - 1)) ∧
    ((s'.nextGrant = none ∨ s'.freeLines = []) → s.OfferInv → exec (.lineGrant lv) s = .next s') ∧
    ∀ (n : LinkId) (i : LineId) (is : List LineId) (slot seg off len : Nat) (a : Addr) (d : Descriptor),
      s'.nextGrant = some n → s'.freeLines = i :: is →
      s'.bytesLeft n (s.link n).streamCursor = some (slot, seg, off, a, len) → (s.unit n).descOf slot = some d →
      let out := (s.link n).dir = .outbound
      let u := s.unit n
      let piece := min (len - off) (64 - (a + BitVec.ofNat 48 off).toNat % 64)
      let segments := match d.form with | some .table => d.entryCount | _ => d.segmentCount
      let ahead (w : SegWindow) : Cursor :=
        if off + piece < len then .inside slot seg (off + piece)
        else if seg + 1 < segments ∨ w.mismatch ≠ none then .inside slot (seg + 1) 0
        else .atEnd slot
      let left (w : SegWindow) : SegWindow :=
        if off + piece < len then w else { w with entries := w.entries.filter (·.index ≠ seg) }
      (s.line i).state = .free ∧ (∀ j, j < i → (s.line j).state ≠ .free) ∧ s'.grantAllowed n = true ∧
      (∀ m : LinkId, m - s.grantPtr - 1 < n - s.grantPtr - 1 → s'.grantAllowed m = false) ∧
      ∃ t, exec (.lineGrant lv) s = .next (State.serveLink n t).acceptOffers ∧
        t = { s' with links := t.links, units := t.units, lines := t.lines, grantPtr := n } ∧
        t.line i = { s.line i with
          state := if out then .filling else .gathering, owner := some n, descSlot := slot
          address := a + BitVec.ofNat 48 off, length := piece, offset := 0, error := none
          last := if out then ahead u.fillWindow = .atEnd slot else false
          startOffset := if out then 0 else (s.link n).gathered } ∧
        (t.line i).address.toNat % 64 + (t.line i).length ≤ 64 ∧
        (out → t.link n = { s.link n with lines := (s.link n).lines ++ [i], fillCursor := ahead u.fillWindow } ∧
          t.unit n = { u with
            fillWindow := left u.fillWindow
            window := u.window.map fun c =>
              if c.slot = slot ∧ c.exec = .waiting then { c with exec := .fillingAhead } else c }) ∧
        (¬out → t.unit n = { u with storeWindow := left u.storeWindow } ∧
          t.link n = { s.link n with
            lines := (s.link n).lines ++ [i], storeCursor := ahead u.storeWindow
            handshakeTimer :=
              if (s.link n).config.timeout = 0 then none else some (s.link n).config.timeout }) ∧
        (∀ j, j ≠ i → t.line j = s.line j) ∧ ∀ m, m ≠ n → t.link m = s.link m ∧ t.unit m = s.unit m

/-- Offers are accepted in the event that makes them while their ring has room (R128): the end of every event takes
single acceptances until no ring with a place has an offer; what a link then makes was made in that event too, and a
COMPLETION or hold record of it goes before an ATTENTION record of the event (R127). One acceptance: an ACTIVE ring with
a place takes the record of the first producer after its pointer that presents one, in the order links 0 to 3, control
processor, error log, a link its oldest one; the record goes to the back of its list and the pointer to that producer. A
row of its own accepts in the same way (log 4), and finds no offer to accept between events. A RESULT accepted moves the
head on and leaves the processor IDLE where nothing is posted behind it; else it is FETCHING, with the next slot's fetch
offered (R163, R166; that the outcome goes with the copy is log 32, DEDUCED). A link's COMPLETION accepted retires its
copy: head moves past its slot, and it leaves the window (R13, R14), where the held copy next to it then offers its hold
record (R145); with PAUSE_AFTER and OK the link is then HELD with
PAUSE, and its PAUSE record stands (R148). A hold record accepted ends HOLDING where the link is settled (R145), and in
QUIESCING retires the held copy (R156). -/
def Obligations.OfferAccepted : Prop :=
  (∀ s : State, Relation.ReflTransGen
      (fun a b => ∃ r p, a.hasPlace r = true ∧ a.nextProducer r = some p ∧ b = match p with
        | .link n => (a.acceptOne r).modLink n fun l =>
          { l with offers := l.offers.filter (·.purpose ≠ .attention) ++ l.offers.filter (·.purpose = .attention) }
        | .control | .log => a.acceptOne r) s s.acceptOffers ∧
    ∀ r, s.acceptOffers.hasPlace r = true → s.acceptOffers.nextProducer r = none) ∧
  ∀ (s : State) (r : RingId) (lv : Levels), s.resetHeld = false →
    let s' := s.sense lv
    let presents (q : Producer) : Option StatusRecord :=
      match q with
      | .link n =>
        if (s.unit n).statusRing.map RingId.s = some r then ((s.link n).offers.head?).map (·.record) else none
      | .control => if r = .sc then s.control.resultOffer else none
      | .log => if r = .sc then s.notices.head? else none
    let place (q : Producer) : Nat := match q with | .link n => n | .control => 4 | .log => 5
    exec (.offerAccept r lv) s = .next (s'.acceptOne r).acceptOffers ∧
    (s.OfferInv → exec (.offerAccept r lv) s = .next s') ∧
    ((s.partState ≠ .running ∨ (s.ring r).state ≠ .active ∨ 8 ≤ (s.ring r).pending.length ∨
      ∀ q, presents q = none) → s'.acceptOne r = s') ∧
    ∀ (p : Producer) (rec : StatusRecord), s.partState = .running → (s.ring r).state = .active →
      (s.ring r).pending.length < 8 → presents p = some rec →
      (∀ q, (place q + 5 - place (s.ring r).pointer) % 6 < (place p + 5 - place (s.ring r).pointer) % 6 →
        presents q = none) →
      let t := s'.modRing r fun x => { x with pending := x.pending ++ [rec], pointer := p }
      (p = .log → s'.acceptOne r = { t with notices := s.notices.tail }) ∧
      (p = .control →
        let c := s.control
        let head := (c.head + 1) % c.size
        let ended := { c with
          state := .idle, head := head, current := none, outcome := none, capture := .none, failure := none
          resultOffer := none }
        let next := { ended with state := .fetching, fetched := (c.fetched + 1) % c.size }
        ((c.tail + c.size - head) % c.size = 0 → s'.acceptOne r = { t with control := ended }) ∧
        (0 < (c.tail + c.size - head) % c.size → s'.acceptOne r = { t with control := next } ∧
          (c.fetched < c.size → s.issued .read .command = false → { t with control := next }.controlRead = some
            { address := c.base + BitVec.ofNat 48 (32 * c.fetched), length := 32, route := .command, data := [] }))) ∧
      ∀ n o os, p = .link n → (s.link n).offers = o :: os →
        let u := s.unit n
        let answered (l : Link) : Link :=
          { l with offers := os, holdRecord := if l.holdRecord = .offered then .done else l.holdRecord }
        o.record = rec ∧
        (o.purpose = .attention → s'.acceptOne r = State.serveLink n
          (t.modLink n fun l => { l with offers := os, attnOwed := false })) ∧
        ((o.purpose = .pause ∨ o.purpose = .statusLost ∨ o.purpose = .holdRecord ∧ (s.link n).state ≠ .quiescing) →
          s'.acceptOne r = State.serveLink n (t.modLink n answered)) ∧
        (∀ c cs, o.purpose = .holdRecord → (s.link n).state = .holding → (s.link n).holdRecord = .offered →
          (s.link n).lines = [] → (s.link n).phase = .none → u.window = c :: cs → c.exec = .failed →
          (s.link n).heldCopy = some c.slot → ∃ t', s'.acceptOne r = t' ∧ t.OnlyLinks t' ∧
            t'.link n = { s.link n with offers := os, holdRecord := .done, state := .held } ∧
            (t'.unit n).head = u.head ∧ ((t'.unit n).copy c.slot).map (·.exec) = some .failed) ∧
        (∀ c cs, u.window = c :: cs →
          (o.purpose = .holdRecord ∧ (s.link n).state = .quiescing ∨
            o.purpose = .retire ∧ ¬((s.link n).state = .running ∧ c.pauseAfter = true ∧ c.outcome = some .ok)) →
          ∃ t', s'.acceptOne r = State.serveLink n t' ∧ t.OnlyLinks t' ∧
            t'.unit n = { u with window := cs, head := (u.head + 1) % u.size, reread := .none } ∧
            t'.link n = { s.link n with
              offers := os, fillCursor := (t'.link n).fillCursor, holdRecord := (t'.link n).holdRecord } ∧
            t'.lines = s.lines ∧ ∀ m, m ≠ n → t'.link m = s.link m ∧ t'.unit m = s.unit m) ∧
        (∀ c x cs b, u.window = c :: x :: cs → o.purpose = .retire → (∀ o', o' ∈ os → o'.purpose = .attention) →
          ((s.link n).state = .holding ∨ (s.link n).state = .quiescing) → (s.link n).heldCopy = some x.slot →
          (s.link n).holdRecord = .owed → x.exec = .failed → x.bytesDone = some b →
          ∃ t', s'.acceptOne r = t' ∧ t.OnlyLinks t' ∧ (t'.link n).state = (s.link n).state ∧
            (t'.unit n).head = (u.head + 1) % u.size ∧ (t'.link n).holdRecord = .offered ∧
            (t'.link n).offers = os ++ [t'.failedOffer n x.slot x.tag (x.outcome.getD .ok) b x.detail]) ∧
        ∀ c cs, u.window = c :: cs → o.purpose = .retire → (s.link n).state = .running → c.pauseAfter = true →
          c.outcome = some .ok → ∃ t', s'.acceptOne r = State.serveLink n t' ∧ t.OnlyLinks t' ∧
            (t'.link n).state = .held ∧ (t'.link n).holdCause = some .pause ∧ (t'.link n).heldCopy = none ∧
            (t'.link n).holdRecord = .offered ∧ (t'.unit n).head = (u.head + 1) % u.size ∧
            (t'.unit n).window.map (·.slot) = cs.map (·.slot) ∧
            (t'.link n).offers = os ++ [{
              purpose := .pause
              record := { kind := .event, source := .link n, tag := c.tag, outcome := .ok, bytesDone := 0,
                          ringHead := (u.head + 1) % u.size, snapshot := t'.snapshotOf n, holdCause := some .pause,
                          detail := .absent } }]

/-- The oldest unstarted copy of an IDLE link, in a step of its own (log 4). A VALID SEND at the front of an outbound
link, or behind SENDs in DONE_UNRETIRED without PAUSE_AFTER only, becomes CURRENT (R35, R36), with the fill cursor at
its first byte unless it stands in the SEND already (R89); one whose cursor already stands at its mismatch point with no
line left fails at once (R98). Behind an unretired copy nothing else starts, turns the link around or fails (R24, R32 to
R34, R36). A RECEIVE at the front of an inbound link becomes CURRENT and gathers (R106). Either turns a link of the
other direction around first (R32, R68). A SIGNAL becomes CURRENT, its two actions applied together; with no pulse its
wait begins at once, and ends at once where nothing is awaited or the level stands (R82, R83). An INVALID or UNREADABLE
copy, or one with an INLINE mismatch, fails instead at the front, logged unless it is UNREADABLE, and the link holds
(R24, R142, R147); what fails so offers its hold record in the event, where none but an ATTENTION record stands (R126,
R145). A SEND or RECEIVE that becomes CURRENT with fault_stops set and FAULT# low fails with LINK_FAULT in
the same event, a SEND with bytes_done 0, a RECEIVE with its latch cleared and its gathering ended (R78, R89, R106). A
link that is not RUNNING or not IDLE starts nothing (R31), and a turnaround waits for an empty line list (R32). -/
def Obligations.CopyStarts : Prop :=
  ∀ (s : State) (n : LinkId) (lv : Levels) (c : Copy) (cs : List Copy), s.resetHeld = false →
    let s' := s.sense lv
    let l := s.link n
    let fails (t : State) (o : Code) (x : Detail) : Prop :=
      exec (.descriptorStart n lv) s = .next (State.serveLink n t).acceptOffers ∧ s'.OnlyLinks t ∧
        (t.link n).state = .holding ∧ (t.link n).holdCause = some .error ∧ (t.link n).heldCopy = some c.slot ∧
        (t.link n).descFailed = addCounter l.descFailed 1 ∧ (t.unit n).copy c.slot = some { c with
          exec := .failed, outcome := some o, detail := x, bytesDone := some 0 }
    let records (tag : BitVec 16) (o : Code) (x : Detail) : Prop := s.MayOffer n →
      ∃ t, exec (.descriptorStart n lv) s = .next t.acceptOffers ∧ (t.link n).state = .holding ∧
        s'.HoldOffered n c.slot tag o 0 x t
    let event (o : Code) (a : Addr) (x : Nat) : ErrorEvent :=
      { cls := .descriptor, code := o, source := .link n, tag := some c.tag, address := some a,
        detail := some (BitVec.ofNat 32 x) }
    let faultEvent : ErrorEvent := { cls := .link, code := .linkFault, source := .link n, tag := some c.tag,
                                     address := none, detail := none }
    let slotAddr := (s.unit n).base + BitVec.ofNat 48 (32 * c.slot)
    let starts (t : State) : Prop :=
      s'.OnlyLinks t ∧ (t.unit n).current = some { c with exec := .current } ∧ (t.link n).state = .running ∧
        ∀ m, m ≠ n → t.link m = s.link m ∧ t.unit m = s.unit m
    let nothing := exec (.descriptorStart n lv) s = .next (State.serveLink n s').acceptOffers
    let faultLow := l.config.faultStops = true ∧ (s'.pin n).fault = false
    let passes (x : Copy) : Prop := x.exec = .doneUnretired ∧ x.kind = some .send ∧ x.pauseAfter = false
    ((s.partState ≠ .running ∨ l.state ≠ .running ∨ l.sub ≠ .idle) → nothing) ∧
    ((∀ x, x ∈ (s.unit n).window → x.unstarted = false) → nothing) ∧
    (∀ ahead : List Copy, (s.unit n).window = ahead ++ c :: cs → (∀ x, x ∈ ahead → x.unstarted = false) →
      c.unstarted = true →
      (ahead ≠ [] → c.bad = true ∨ c.kind ≠ some .send ∨ l.dir = .inbound ∨ (∃ x, x ∈ ahead ∧ ¬passes x) → nothing) ∧
      (ahead = [] → c.bad = false → l.lines ≠ [] →
        (c.kind = some .send ∧ l.dir = .inbound ∨ c.kind = some .receive ∧ l.dir = .outbound) → nothing) ∧
      (s.partState = .running → l.state = .running → l.sub = .idle → l.turnTimer = none →
        (∀ x, x ∈ ahead → passes x ∧ x.slot ≠ c.slot) → c.bad = false → c.kind = some .send → l.dir = .outbound →
        ¬faultLow → ∃ t, exec (.descriptorStart n lv) s = .next (State.serveLink n t).acceptOffers ∧ starts t ∧
          (t.link n).sub = .sending ∧ (t.link n).sentCount = 0 ∧ (t.link n).lines = l.lines ∧ t.errorLog = s.errorLog ∧
          (t.unit n).window = ahead ++ { c with exec := .current } :: (t.unit n).window.drop (ahead.length + 1) ∧
          (l.fillCursor = .idle → (t.link n).fillCursor = .inside c.slot 0 0 ∧
            (t.unit n).fillWindow = { SegWindow.reset with read := (t.unit n).fillWindow.read }) ∧
          ∀ i o, l.fillCursor = .inside c.slot i o ∨ l.fillCursor = .atEnd c.slot →
            (t.link n).fillCursor = l.fillCursor ∧ (t.unit n).fillWindow = (s.unit n).fillWindow)) ∧
    (s.partState = .running → l.state = .running → l.sub = .idle → l.turnTimer = none →
      (s.unit n).window = c :: cs → c.exec = .waiting →
      (∀ e, c.verdict = .invalid e → records c.tag .descriptorInvalid (.invalidCode e) ∧
        ∃ t, fails t .descriptorInvalid (.invalidCode e) ∧
          t.errorLog = s.errorLog.after (event .descriptorInvalid slotAddr e.value)) ∧
      (∀ f, c.verdict = .unreadable f →
        let o : Code := match f with | .error => .memoryReadError | .timeout => .memoryTimeout
        (c.desc = none → records 0 o .fetch) ∧ ∃ t, fails t o .fetch ∧ t.errorLog = s.errorLog) ∧
      (c.verdict = .valid → c.inlineMismatch = true → records c.tag .segmentMismatch (.segment 0) ∧
        ∃ t, fails t .segmentMismatch (.segment 0) ∧
          t.errorLog = s.errorLog.after (event .segmentMismatch slotAddr 0)) ∧
      (c.bad = false →
        (c.kind = some .send → l.dir = .inbound → l.lines = [] →
          exec (.descriptorStart n lv) s = .next (State.serveLink n (s'.modLink n fun l =>
            { l with dir := .outbound, sub := .turning, turnTimer := some l.config.turnaround,
                     lastByte := 0 })).acceptOffers) ∧
        (c.kind = some .receive → l.dir = .outbound → l.lines = [] →
          exec (.descriptorStart n lv) s = .next (State.serveLink n (s'.modLink n fun l =>
            { l with dir := .inbound, sub := .turning, turnTimer := some l.config.turnaround,
                     lastByte := 0 })).acceptOffers) ∧
        (c.kind = some .send → l.dir = .outbound → l.lines = [] → l.fillCursor = .idle → ¬faultLow →
          ∃ t, exec (.descriptorStart n lv) s = .next t.acceptOffers ∧ starts t ∧
            (t.link n).sub = .sending ∧ (t.link n).sentCount = 0 ∧ (t.link n).fillCursor = .inside c.slot 0 0) ∧
        (∀ i o, c.kind = some .send → l.dir = .outbound → l.lines = [] → l.phase = .none →
          ¬faultLow → l.fillCursor = .inside c.slot i 0 →
          (s.unit n).fillWindow.mismatch = some (i, o) → records c.tag o (.segment i) ∧ ∃ t, fails t o (.segment i) ∧
            (o ≠ .segmentMismatch → t.errorLog = s.errorLog) ∧
            (∀ d, o = .segmentMismatch → c.desc = some d → d.addr0.toNat + 16 * i < 2 ^ 48 → t.errorLog =
              s.errorLog.after (event .segmentMismatch (BitVec.ofNat 48 (d.addr0.toNat + 16 * i)) i))) ∧
        (c.kind = some .receive → l.dir = .inbound → l.lines = [] → ¬faultLow →
          ∃ t, exec (.descriptorStart n lv) s = .next t.acceptOffers ∧ starts t ∧ (t.link n).sub = .receiving ∧
            (t.link n).gathering = true ∧ (t.link n).gathered = 0 ∧ (t.link n).attnLatch = false ∧
            (t.link n).breakPos = none ∧ (t.link n).storeCursor = .inside c.slot 0 0) ∧
        (faultLow →
          (c.kind = some .send → l.dir = .outbound → records c.tag .linkFault .absent ∧
            ∃ t, fails t .linkFault .absent ∧ (t.link n).linkTimeouts = l.linkTimeouts ∧ (t.link n).sub = .idle ∧
            t.errorLog = s.errorLog.after faultEvent) ∧
          (c.kind = some .receive → l.dir = .inbound → (l.lines = [] → records c.tag .linkFault .absent) ∧
            ∃ t, exec (.descriptorStart n lv) s = .next (State.serveLink n t).acceptOffers ∧
            s'.FaultStopped n c t ∧ t.errorLog = s.errorLog.after faultEvent)) ∧
        ∀ d, c.desc = some d → d.kind = some .signal → l.restore0 = none → l.restore1 = none →
          let level (a : Option CtlAction) (old : Bool) : Bool :=
            match a with | some .low => false | some .high => true | some .pulse => !old | _ => old
          let wait := d.wait.getD .none
          ∃ t, exec (.descriptorStart n lv) s = .next (State.serveLink n t).acceptOffers ∧ s'.OnlyLinks t ∧
            t.errorLog = s.errorLog ∧ (t.link n).ctl0 = level d.ctl0 l.ctl0 ∧ (t.link n).ctl1 = level d.ctl1 l.ctl1 ∧
            (t.link n).restore0 = (if d.ctl0 = some .pulse then some l.ctl0 else none) ∧
            (t.link n).restore1 = (if d.ctl1 = some .pulse then some l.ctl1 else none) ∧
            (t.link n).attnLatch = (l.attnLatch && !d.clearAttention) ∧
            let pulses := d.ctl0 = some .pulse ∨ d.ctl1 = some .pulse
            (pulses → (t.unit n).copy c.slot = some { c with exec := .current } ∧ (t.link n).sub = .signalling ∧
              (t.link n).pulseTimer = some d.pulseWidth ∧ (t.link n).wait = l.wait) ∧
            (¬pulses → levelMeets (s'.pin n) wait = false →
              (t.unit n).copy c.slot = some { c with exec := .current } ∧ (t.link n).sub = .signalling ∧
              (t.link n).wait = some wait ∧
              (t.link n).limitTimer = if d.waitLimit = 0 then none else some d.waitLimit) ∧
            (¬pulses → levelMeets (s'.pin n) wait = true → (t.link n).sub = .idle ∧
              (t.unit n).copy c.slot = some { c with
                exec := .doneUnretired, outcome := some .ok, bytesDone := some 0 } ∧
              (t.link n).descOk = addCounter l.descOk 1)))

/-! ### The link ports -/

/-- A turnaround ends: the RECEIVE that caused one to inbound becomes CURRENT and gathers, with the latch cleared and
the store cursor at its first byte (R106); the SEND that caused one to outbound becomes CURRENT, with the fill cursor at
its first byte (R89), with fault_stops clear or FAULT# high; with fault_stops set and FAULT# low either fails with
LINK_FAULT in the same event (R78, R106). Without a copy to start, as in QUIESCING, the timer only stops, and the link
goes on with its cancellation: the end of a DELETE's turnaround with nothing under way puts the link in STOPPED and the
ring unit in UNBOUND, and ends the command with OK (R3, R32, R68, R69, R157). -/
def Obligations.TurnaroundEnds : Prop :=
  ∀ (s : State) (n : LinkId) (lv : Levels), s.resetHeld = false → s.partState = .running →
    (s.link n).turnTimer ≠ none →
    (∀ (c : Copy) (cs : List Copy), (s.link n).state = .running → (s.link n).sub = .turning →
      (s.unit n).window = c :: cs → c.bad = false → c.exec = .waiting →
      ((s.link n).config.faultStops = true → ((s.sense lv).pin n).fault = true) → (s.link n).lines = [] →
      (c.kind = some .receive → ∃ t, exec (.turnaroundEnd n lv) s = .next t.acceptOffers ∧ (s.sense lv).OnlyLinks t ∧
        (t.link n).turnTimer = none ∧ (t.unit n).current = some { c with exec := .current } ∧
        (t.link n).sub = .receiving ∧ (t.link n).gathering = true ∧ (t.link n).gathered = 0 ∧
        (t.link n).attnLatch = false ∧ (t.link n).breakPos = none ∧ (t.link n).storeCursor = .inside c.slot 0 0) ∧
      (c.kind = some .send → (s.link n).fillCursor = .idle → ∃ t, exec (.turnaroundEnd n lv) s = .next t.acceptOffers ∧
        (s.sense lv).OnlyLinks t ∧ (t.link n).turnTimer = none ∧
        (t.unit n).current = some { c with exec := .current } ∧ (t.link n).sub = .sending ∧
        (t.link n).sentCount = 0 ∧ (t.link n).fillCursor = .inside c.slot 0 0 ∧
        (t.link n).attnLatch = (s.link n).attnLatch)) ∧
    (∀ (c : Copy) (cs : List Copy), (s.link n).state = .running → (s.link n).sub = .turning →
      (s.unit n).window = c :: cs → c.bad = false → c.exec = .waiting →
      (s.link n).config.faultStops = true → ((s.sense lv).pin n).fault = false →
      let faultEvent : ErrorEvent := { cls := .link, code := .linkFault, source := .link n, tag := some c.tag,
                                       address := none, detail := none }
      (c.kind = some .send → ∃ t, exec (.turnaroundEnd n lv) s = .next (State.serveLink n t).acceptOffers ∧
        (s.sense lv).OnlyLinks t ∧ (t.link n).state = .holding ∧ (t.link n).holdCause = some .error ∧
        (t.link n).heldCopy = some c.slot ∧ (t.link n).turnTimer = none ∧ (t.link n).sub = .idle ∧
        (t.link n).descFailed = addCounter (s.link n).descFailed 1 ∧ (t.unit n).copy c.slot = some { c with
          exec := .failed, outcome := some .linkFault, detail := .absent, bytesDone := some 0 } ∧
        t.errorLog = s.errorLog.after faultEvent) ∧
      (c.kind = some .receive → ((s.link n).lines = [] ∨ (s.link n).dir = .inbound) →
        ∃ t, exec (.turnaroundEnd n lv) s = .next (State.serveLink n t).acceptOffers ∧
        (s.sense lv).FaultStopped n c t ∧ (t.link n).turnTimer = none ∧ t.errorLog = s.errorLog.after faultEvent)) ∧
    ((s.link n).state ≠ .running → exec (.turnaroundEnd n lv) s = .next (State.serveLink n
      ((s.sense lv).modLink n fun l =>
        { l with turnTimer := none, sub := if l.sub = .turning then .idle else l.sub })).acceptOffers) ∧
    ((s.link n).state = .quiescing → (s.link n).cancellation = .delete → (s.link n).dir = .outbound →
      (s.link n).lines = [] → (s.link n).phase = .none → (s.unit n).window = [] →
      (s.unit n).fetchOutstanding = false → (s.link n).snapshot = some (s.unit n).head →
      (s.unit n).fetched = (s.unit n).head → (∀ o, o ∈ (s.link n).offers → o.purpose = .attention) →
      ∃ t : State, exec (.turnaroundEnd n lv) s = .next (t.endCommand .ok).acceptOffers ∧ (s.sense lv).OnlyLinks t ∧
        t.link n = (s.link n).stopped (s.link n).config ∧ t.unit n = RingUnit.reset ∧ t.control = s.control ∧
        t.lines = s.lines ∧ ∀ m, m ≠ n → t.link m = s.link m ∧ t.unit m = s.unit m)

/-- The timers of an outbound byte. At the end of SETUP the strobe begins, under PACED with the handshake timer. At the
end of STROBE a PACED byte enters ACK_WAIT; where its ACK# pulse has come, BUSY_AFTER, or with BUSY low it completes at
once. Under the other handshakes it enters HOLD, or completes at once where the hold time is 0; at the end of HOLD it
completes (R70 to R74, R95; State.ByteSent says what a byte's completion does). A byte stopped in STROBE ends with it,
counted as sent where it was stopped from outside and not counted where it failed; its line is FREE, counted as
discarded where bytes of it were left and the part is RUNNING, and after a halt or soft reset CTL0 and CTL1 then go low
(R45, R59, R61, R73, R74, R78, R85). The last clause, that a byte stopped in STROBE by a halt or soft reset still raises
the sent count and BYTES_OUT at the end of its strobe, is log 14 (DESIGN CHOICE: R73 and R95 against R103). -/
def Obligations.ByteTimersRunOut : Prop :=
  ∀ (s : State) (n : LinkId) (lv : Levels), s.resetHeld = false →
    let l := s.link n
    let s' := s.sense lv
    (s.partState = .running →
      (l.phase = .setup → exec (.setupEnd n lv) s = .next (State.serveLink n (s'.modLink n fun l =>
        { l with phase := .strobe, phaseTimer := some l.config.strobe, ackSeen := false, stop := .none,
                 handshakeTimer := if l.config.handshake = .paced ∧ l.config.timeout ≠ 0
                   then some l.config.timeout else none })).acceptOffers) ∧
      (l.phase = .strobe → l.stop = .none → l.config.handshake = .paced →
        (l.ackSeen = false → exec (.strobeEnd n lv) s = .next (State.serveLink n (s'.modLink n fun l =>
          { l with phase := .ackWait, phaseTimer := none })).acceptOffers) ∧
        (l.ackSeen = true → (s'.pin n).busy = true → exec (.strobeEnd n lv) s = .next (State.serveLink n
          (s'.modLink n fun l =>
            { l with phase := .busyAfter, phaseTimer := none,
                     handshakeTimer := if l.config.timeout = 0 then none else some l.config.timeout })).acceptOffers) ∧
        (∀ i, l.ackSeen = true → (s'.pin n).busy = false → s.drainingLine n = some i →
          ∃ t, exec (.strobeEnd n lv) s = .next (State.serveLink n t).acceptOffers ∧ s'.ByteSent n i t)) ∧
      (l.phase = .strobe → l.stop = .none → l.config.handshake ≠ .paced →
        (l.config.hold ≠ 0 → exec (.strobeEnd n lv) s = .next (State.serveLink n (s'.modLink n fun l =>
          { l with phase := .hold, phaseTimer := some l.config.hold })).acceptOffers) ∧
        (∀ i, l.config.hold = 0 → s.drainingLine n = some i →
          ∃ t, exec (.strobeEnd n lv) s = .next (State.serveLink n t).acceptOffers ∧ s'.ByteSent n i t)) ∧
      (∀ i, l.phase = .hold → s.drainingLine n = some i →
        ∃ t, exec (.holdEnd n lv) s = .next (State.serveLink n t).acceptOffers ∧ s'.ByteSent n i t)) ∧
    ∀ i, l.phase = .strobe → l.stop ≠ .none → s.drainingLine n = some i → (s.line i).owner = some n →
      (∀ j, j ∈ l.lines → j ≠ i → (s.line j).state ≠ .draining) →
      let left := l.stop = .notSent ∨ (s.line i).offset + 1 < (s.line i).length
      let ended : Link :=
        { l with
          phase := .none, phaseTimer := none, ackSeen := false, stop := .none, handshakeTimer := none
          sentCount := if l.stop = .sent then l.sentCount + 1 else l.sentCount
          bytesOut := if l.stop = .sent then addCounter l.bytesOut 1 else l.bytesOut }
      let t := (s'.modLink n fun _ => ended).lineFreed n i
      (s.partState = .running → left → exec (.strobeEnd n lv) s = .next (State.serveLink n (t.modLink n fun l =>
        { l with linesDiscarded := addCounter l.linesDiscarded 1 })).acceptOffers) ∧
      (s.partState = .running → ¬left → exec (.strobeEnd n lv) s = .next (State.serveLink n t).acceptOffers) ∧
      (s.partState ≠ .running → exec (.strobeEnd n lv) s = .next (t.modLink n fun l =>
        { l with ctl0 := false, ctl1 := false }))

/-- BUSY going low ends BUSY_WAIT: the byte at the drain offset is driven and its setup time runs; it ends BUSY_AFTER:
the byte completes. ACK# rising with DIR 0 ends ACK_WAIT: with BUSY low the byte completes at once, and while BUSY is
high BUSY_AFTER begins with its own timer; during STROBE it is remembered and its timer stops (R71, R74, R95;
State.ByteSent says what the completion of a byte does, the last one of its line and of its SEND among them). Outside
these phases the level changes, and a SIGNAL that waits sees it: its wait ends where its level stands, and else goes on
(R83; State.waitSeen). That an ACK_PULSE which comes with the direction inbound does no more is the model's (log 5, log
23). -/
def Obligations.InputsEndWaits : Prop :=
  ∀ (s : State) (n : LinkId) (lv : Levels), s.resetHeld = false → s.partState = .running →
    (s.link n).state ≠ .unconfigured →
    let low := (s.sense lv).modPin n fun p => { p with busy := false }
    let high := (s.sense lv).modPin n fun p => { p with ack := true }
    let waitsOn (t : State) : Prop := ∀ w, (s.link n).wait = some w → levelMeets (t.pin n) w = false
    (∀ i, (s.link n).phase = .busyWait → s.drainingLine n = some i → waitsOn low → exec (.busyLow n lv) s =
      .next (State.serveLink n (low.modLink n fun l =>
        { l with phase := .setup, phaseTimer := some l.config.setup, handshakeTimer := none, ackSeen := false,
                 stop := .none, lastByte := ((s.line i).data[(s.line i).offset]?).getD 0 })).acceptOffers) ∧
    (∀ i, (s.link n).phase = .busyAfter → s.drainingLine n = some i → waitsOn low →
      ∃ t, exec (.busyLow n lv) s = .next (State.serveLink n t).acceptOffers ∧ low.ByteSent n i t) ∧
    ((s.link n).phase ≠ .busyWait → (s.link n).phase ≠ .busyAfter →
      exec (.busyLow n lv) s = .next (State.serveLink n (low.waitSeen n)).acceptOffers) ∧
    ((s.link n).dir = .outbound → (s.link n).phase = .ackWait → waitsOn high →
      (((s.sense lv).pin n).busy = true → exec (.ackPulse n lv) s = .next (State.serveLink n (high.modLink n fun l =>
        { l with phase := .busyAfter, phaseTimer := none,
                 handshakeTimer := if l.config.timeout = 0 then none else some l.config.timeout })).acceptOffers) ∧
      (∀ i, ((s.sense lv).pin n).busy = false → s.drainingLine n = some i →
        ∃ t, exec (.ackPulse n lv) s = .next (State.serveLink n t).acceptOffers ∧ high.ByteSent n i t)) ∧
    ((s.link n).dir = .outbound → (s.link n).phase = .strobe → (s.link n).config.handshake = .paced →
      (s.link n).stop = .none → waitsOn high → exec (.ackPulse n lv) s = .next (State.serveLink n
        (high.modLink n fun l => { l with ackSeen := true, handshakeTimer := none })).acceptOffers) ∧
    ((s.link n).dir = .outbound → (s.link n).phase ≠ .ackWait → ((s.link n).phase = .strobe →
      (s.link n).config.handshake ≠ .paced ∨ (s.link n).stop ≠ .none) →
      exec (.ackPulse n lv) s = .next (State.serveLink n (high.waitSeen n)).acceptOffers) ∧
    ((s.link n).dir = .inbound →
      exec (.ackPulse n lv) s = .next (State.serveLink n (high.waitSeen n)).acceptOffers)

/-- The handshake timer expires: the CURRENT SEND, or the CURRENT RECEIVE that gathers, fails with LINK_TIMEOUT, which
is logged and counted, and the link holds. A SEND's bytes_done is its sent count, the byte under way not among them; a
RECEIVE's is open until its lines are settled. At the front the failed copy offers its hold record in the event, a
RECEIVE one that has no line (R120, R126, R145). A timer that does not run expires with no effect (log 5, the model's
choice; R74, R77, R87, R99, R117, R142). -/
def Obligations.HandshakeTimersExpire : Prop :=
  ∀ (s : State) (n : LinkId) (lv : Levels) (c : Copy), s.resetHeld = false → s.partState = .running →
    (s.unit n).current = some c →
    let event : ErrorEvent := { cls := .link, code := .linkTimeout, source := .link n, tag := some c.tag,
                                address := none, detail := none }
    let fails (t : State) (bytes : Option Nat) : Prop :=
      (s.sense lv).OnlyLinks t ∧ (t.link n).state = .holding ∧ (t.link n).holdCause = some .error ∧
      (t.link n).heldCopy = some c.slot ∧ (t.link n).handshakeTimer = none ∧
      (t.link n).linkTimeouts = addCounter (s.link n).linkTimeouts 1 ∧
      (t.link n).descFailed = addCounter (s.link n).descFailed 1 ∧ t.errorLog = s.errorLog.after event ∧
      ∃ x, (t.unit n).copy c.slot = some x ∧ x.exec = .failed ∧ x.outcome = some .linkTimeout ∧ x.bytesDone = bytes
    ((s.link n).handshakeTimer ≠ none → c.kind = some .send → ∃ t,
      exec (.handshakeTimeout n lv) s = .next (State.serveLink n t).acceptOffers ∧
        fails t (some (s.link n).sentCount)) ∧
    ((s.link n).handshakeTimer ≠ none → c.kind = some .receive → (s.link n).gathering = true → ∃ t,
      exec (.inboundHandshakeTimeout n lv) s = .next (State.serveLink n t).acceptOffers ∧ fails t none ∧
      (t.link n).gathering = false) ∧
    (∀ cs, (s.unit n).window = c :: cs → (s.link n).handshakeTimer ≠ none → s.MayOffer n →
      (c.kind = some .send → ∃ t, exec (.handshakeTimeout n lv) s = .next t.acceptOffers ∧
        (t.link n).state = .holding ∧
        (s.sense lv).HoldOffered n c.slot c.tag .linkTimeout (s.link n).sentCount .absent t) ∧
      (c.kind = some .receive → (s.link n).gathering = true → (s.link n).lines = [] →
        ∃ t, exec (.inboundHandshakeTimeout n lv) s = .next t.acceptOffers ∧ (t.link n).state = .holding ∧
        (s.sense lv).HoldOffered n c.slot c.tag .linkTimeout
          (min (s.link n).gathered ((s.link n).breakPos.getD (s.link n).gathered)) .absent t)) ∧
    ((s.link n).handshakeTimer = none →
      exec (.handshakeTimeout n lv) s = .next (State.serveLink n (s.sense lv)).acceptOffers ∧
      exec (.inboundHandshakeTimeout n lv) s = .next (State.serveLink n (s.sense lv)).acceptOffers)

/-- A rising edge of ACK# with DIR 1: where the link can accept it, the byte is written at the gather offset of the
GATHERING line, which seals itself when it is full, and the handshake timer restarts or, at a seal, stops; the
byte_count-th byte ends the gathering. A byte that the CURRENT RECEIVE cannot accept fails it with LINK_OVERRUN, and the
link holds (R76, R87, R117). Where no RECEIVE is CURRENT, with no copy CURRENT or with a SIGNAL, the byte is dropped and
logged as UNSOLICITED_OVERRUN (R47, R48, R76, R77, R110). No level that a SIGNAL awaits stands meanwhile. -/
def Obligations.ByteLatched : Prop :=
  ∀ (s : State) (n : LinkId) (d : Byte) (lv : Levels), s.resetHeld = false → s.partState = .running →
    (s.link n).state ≠ .unconfigured → (s.link n).dir = .inbound →
    let s' := (s.sense lv).modPin n fun p => { p with ack := true }
    (∀ w, (s.link n).wait = some w → levelMeets (s'.pin n) w = false) →
    ((∀ c, (s.unit n).current = some c → c.kind ≠ some .receive) →
      exec (.byteLatch n d lv) s = .next (State.serveLink n (s'.logEvent {
        cls := .link, code := .unsolicitedOverrun, source := .link n, tag := none, address := none,
        detail := none })).acceptOffers) ∧
    (∀ c, (s.unit n).current = some c → c.kind = some .receive → s.canAccept n = false →
      ∃ t, exec (.byteLatch n d lv) s = .next (State.serveLink n t).acceptOffers ∧ s'.OnlyLinks t ∧
        (t.link n).state = .holding ∧ (t.link n).holdCause = some .error ∧ (t.link n).heldCopy = some c.slot ∧
        (t.link n).gathering = false ∧ (t.link n).gathered = (s.link n).gathered ∧
        (t.link n).linkTimeouts = (s.link n).linkTimeouts ∧
        (t.link n).descFailed = addCounter (s.link n).descFailed 1 ∧
        t.errorLog = s.errorLog.after {
          cls := .link, code := .linkOverrun, source := .link n, tag := some c.tag, address := none, detail := none } ∧
        ∃ x, (t.unit n).copy c.slot = some x ∧ x.exec = .failed ∧ x.outcome = some .linkOverrun) ∧
    ∀ (c : Copy) (i : LineId), (s.unit n).current = some c → c.kind = some .receive → s.canAccept n = true →
      s.gatheringRoom n = some i →
      ∃ t, exec (.byteLatch n d lv) s = .next (State.serveLink n t).acceptOffers ∧ s'.OnlyLinks t ∧ t.units = s.units ∧
        t.errorLog = s.errorLog ∧ (t.line i).offset = (s.line i).offset + 1 ∧
        (t.line i).data = (s.line i).data.setIfInBounds (s.line i).offset d ∧
        (t.link n).gathered = (s.link n).gathered + 1 ∧
        ((s.line i).offset + 1 < (s.line i).length → (t.line i).state = .gathering) ∧
        ((s.line i).length ≤ (s.line i).offset + 1 →
          (t.line i).state = .sealed ∧ (t.link n).handshakeTimer = none) ∧
        ((s.link n).gathered + 1 = c.byteCount →
          (t.link n).gathering = false ∧ (t.link n).endCause = .count ∧ (t.link n).handshakeTimer = none) ∧
        ((s.link n).gathered + 1 ≠ c.byteCount → (t.link n).gathering = true ∧
          ((s.line i).offset + 1 < (s.line i).length → (t.link n).handshakeTimer =
            if (s.link n).config.timeout = 0 then none else some (s.link n).config.timeout)) ∧
        (∀ j, j ≠ i → t.line j = s.line j) ∧ ∀ m, m ≠ n → t.link m = s.link m

/-- A rising edge of ATTN: while a CURRENT RECEIVE gathers it ends the gathering and sets no latch; its GATHERING line
is sealed, or FREE with no bytes; with SHORT_IS_ERROR the RECEIVE fails with ENDED_EARLY in the same event, which is
logged, and the link holds. Otherwise, whatever copy is CURRENT, it sets a clear attention latch and owes a record,
which is offered where the ring is bound, behind what else the event leads the link to offer; a set latch takes no
further edge (R79, R80, R116, R127, R142). A SIGNAL that waits sees the edge too: it ends where its level stands, and
waits on for another (R83; State.waitSeen); that the latch is set before is the model's (log 27, DESIGN CHOICE). A
FAILED ring discards the record: it is counted and owed no more, and the RUNNING link enters HOLDING with STATUS_LOST,
its work cancelled; with nothing to settle its STATUS_LOST record is discarded too and it is HELD (R132, R149) That the
store cursor is idle at once is log 37 (DESIGN CHOICE; State.GivenUp). -/
def Obligations.AttentionRises : Prop :=
  ∀ (s : State) (n : LinkId) (lv : Levels), s.resetHeld = false → s.partState = .running →
    (s.link n).state ≠ .unconfigured →
    let s' := (s.sense lv).modPin n fun p => { p with attn := true }
    let gathers := ∃ c, (s.unit n).current = some c ∧ c.kind = some .receive ∧ (s.link n).gathering = true
    let latched := s'.modLink n fun l => { l with attnLatch := true, attnOwed := true }
    (¬gathers → (s.link n).attnLatch = true →
      exec (.attnRising n lv) s = .next (State.serveLink n (s'.waitSeen n)).acceptOffers) ∧
    (¬gathers → (s.link n).attnLatch = false → exec (.attnRising n lv) s =
      .next (State.serveLink n ((State.serveLink n (latched.waitSeen n)).offerAttention n)).acceptOffers) ∧
    ((s.unit n).bound = true → ((s.unit n).window = [] ∨ (s.link n).sub = .signalling ∧ ∃ c cs,
        (s.unit n).window = c :: cs ∧ c.exec = .current ∧ c.kind = some .signal ∧ ∀ x, x ∈ cs → x.unstarted = true) →
      (∀ w, (s.link n).wait = some w → levelMeets (s'.pin n) w = false) →
      (s.link n).state = .running → (s.link n).fillCursor = .idle →
      (s.link n).attnLatch = false → (s.link n).offers = [] →
      ((∀ r, (s.unit n).statusRing = some r → (s.ring (.s r)).state ≠ .failed) →
        exec (.attnRising n lv) s = .next (s'.modLink n fun l =>
          { l with attnLatch := true, attnOwed := true, offers := [{
            purpose := .attention
            record := { kind := .event, source := .link n, tag := 0, outcome := .attention, bytesDone := 0,
                        ringHead := (s.unit n).head, holdCause := none, detail := .absent,
                        snapshot := { s'.snapshotOf n with latch := true } } }] }).acceptOffers) ∧
      ∀ r, (s.unit n).statusRing = some r → (s.ring (.s r)).state = .failed →
        (∃ t, exec (.attnRising n lv) s = .next (State.serveLink n t).acceptOffers ∧ latched.GivenUp n t ∧
          (t.link n).state = .holding ∧ (t.link n).holdCause = some .statusLost ∧ (t.link n).heldCopy = none ∧
          (t.link n).holdRecord = .owed ∧ (t.link n).attnLatch = true ∧ (t.link n).attnOwed = false ∧
          (t.link n).offers = [] ∧ t.errorLog = s.errorLog ∧
          t.recordsDiscarded = addCounter s.recordsDiscarded 1) ∧
        ((s.link n).lines = [] → (s.link n).phase = .none → (s.link n).cancellation = .none →
          ∃ t, exec (.attnRising n lv) s = .next t.acceptOffers ∧ s'.OnlyLinks t ∧
            (t.link n).state = .held ∧ (t.link n).holdCause = some .statusLost ∧ (t.link n).heldCopy = none ∧
            (t.link n).holdRecord = .done ∧ (t.link n).attnLatch = true ∧ (t.link n).attnOwed = false ∧
            (t.link n).offers = [] ∧ (t.unit n).head = (s.unit n).head ∧
            t.recordsDiscarded = addCounter s.recordsDiscarded 2)) ∧
    ∀ c d, (s.unit n).current = some c → c.desc = some d → d.kind = some .receive → (s.link n).gathering = true →
      let sealed (t : State) : Prop := ∀ i, s.gatheringLine n = some i →
        ((s.line i).offset ≠ 0 → (t.line i).state = .sealed ∧ (t.line i).length = (s.line i).offset ∧
          (t.line i).last = true) ∧
        ((s.line i).offset = 0 → (t.line i).state = .free)
      (d.shortIsError = false → ∃ t, exec (.attnRising n lv) s = .next (State.serveLink n t).acceptOffers ∧
        s'.OnlyLinks t ∧ (t.link n).gathering = false ∧ (t.link n).endCause = .attn ∧ (t.link n).handshakeTimer = none ∧
        (t.link n).attnLatch = (s.link n).attnLatch ∧ (t.link n).state = (s.link n).state ∧
        t.errorLog = s.errorLog ∧ t.units = s.units ∧ sealed t) ∧
      (d.shortIsError = true → (s.link n).dir = .inbound →
        ∃ t, exec (.attnRising n lv) s = .next (State.serveLink n t).acceptOffers ∧ s'.OnlyLinks t ∧
        (t.link n).gathering = false ∧ (t.link n).endCause = .attn ∧ (t.link n).handshakeTimer = none ∧
        (t.link n).attnLatch = (s.link n).attnLatch ∧ (t.link n).state = .holding ∧
        (t.link n).holdCause = some .error ∧ (t.link n).heldCopy = some c.slot ∧
        (t.link n).descFailed = addCounter (s.link n).descFailed 1 ∧
        t.errorLog = s.errorLog.after {
          cls := .link, code := .endedEarly, source := .link n, tag := some c.tag, address := none, detail := none } ∧
        (∃ x, (t.unit n).copy c.slot = some x ∧ x.exec = .failed ∧ x.outcome = some .endedEarly ∧ x.bytesDone = none) ∧
        sealed t)

/-- A falling edge of FAULT# with fault_stops set ends the CURRENT SEND or RECEIVE with LINK_FAULT, and the link
holds; with fault_stops clear, or with neither CURRENT, as while a SIGNAL pulses, the level changes, and a SIGNAL that
waits sees it: its wait ends where its level stands, and else goes on (R78, R83, R87, R99, R117; State.waitSeen). -/
def Obligations.FaultFalls : Prop :=
  ∀ (s : State) (n : LinkId) (lv : Levels), s.resetHeld = false → s.partState = .running →
    (s.link n).state ≠ .unconfigured →
    let s' := (s.sense lv).modPin n fun p => { p with fault := false }
    (((s.link n).config.faultStops = false ∨
        ∀ c, (s.unit n).current = some c → c.kind ≠ some .send ∧ c.kind ≠ some .receive) →
      exec (.faultFalling n lv) s = .next (State.serveLink n (s'.waitSeen n)).acceptOffers) ∧
    ∀ c, (s.unit n).current = some c → (c.kind = some .send ∨ c.kind = some .receive) →
      (s.link n).config.faultStops = true →
      ∃ t, exec (.faultFalling n lv) s = .next (State.serveLink n t).acceptOffers ∧ s'.OnlyLinks t ∧
        (t.link n).state = .holding ∧ (t.link n).holdCause = some .error ∧ (t.link n).heldCopy = some c.slot ∧
        (t.link n).linkTimeouts = (s.link n).linkTimeouts ∧ (t.link n).gathering = false ∧
        t.errorLog = s.errorLog.after {
          cls := .link, code := .linkFault, source := .link n, tag := some c.tag,
          address := none, detail := none } ∧
        ∃ x, (t.unit n).copy c.slot = some x ∧ x.exec = .failed ∧ x.outcome = some .linkFault ∧
          (c.kind = some .send → x.bytesDone = some (s.link n).sentCount)

/-- A SIGNAL's timers and wait. The pulse timer drives every output still pulsing to its restore level and the wait
begins, or the SIGNAL ends with OK where nothing is awaited or the level stands (R82). An awaited level that comes ends
the SIGNAL with OK, on every input and level; ATTN's rising edge also sets a clear attention latch and owes its record
(R80, R83); that the latch is set before the wait ends is the model's (log 27, DESIGN CHOICE). The limit ends it with
WAIT_EXPIRED, which fails the copy and holds the link with EXPIRY_IS_ERROR and else retires normally (R83, R104, R146).
-/
def Obligations.SignalEvents : Prop :=
  ∀ (s : State) (n : LinkId) (lv : Levels) (c : Copy) (d : Descriptor), s.resetHeld = false → s.partState = .running →
    (s.link n).state ≠ .unconfigured → (s.unit n).current = some c → c.desc = some d → d.kind = some .signal →
    let s' := s.sense lv
    let finished (o : Code) (u : RingUnit) : RingUnit :=
      { u with window := u.window.map fun x =>
          if x.exec = .current then { x with exec := .doneUnretired, outcome := some o, bytesDone := some 0 } else x }
    ((s.link n).pulseTimer ≠ none → (s.link n).sub = .signalling →
      let restored (l : Link) : Link :=
        { l with ctl0 := l.restore0.getD l.ctl0, ctl1 := l.restore1.getD l.ctl1, restore0 := none, restore1 := none,
                 pulseTimer := none }
      let wait := d.wait.getD .none
      (levelMeets (s'.pin n) wait = true → exec (.pulseTimerExpiry n lv) s = .next (State.serveLink n
        ((s'.modUnit n (finished .ok)).modLink n fun l =>
          { restored l with sub := .idle, descOk := addCounter l.descOk 1 })).acceptOffers) ∧
      (levelMeets (s'.pin n) wait = false → exec (.pulseTimerExpiry n lv) s = .next (State.serveLink n
        (s'.modLink n fun l =>
          { restored l with
            wait := some wait, limitTimer := if d.waitLimit = 0 then none else some d.waitLimit })).acceptOffers)) ∧
    (∀ w, (s.link n).wait = some w →
      let p := s'.modPin n fun p => match w with
        | .none => p
        | .attnHigh => { p with attn := true }
        | .attnLow => { p with attn := false }
        | .faultHigh => { p with fault := true }
        | .faultLow => { p with fault := false }
        | .busyHigh => { p with busy := true }
        | .busyLow => { p with busy := false }
      let met (l : Link) : Link :=
        { l with wait := none, limitTimer := none, sub := .idle, descOk := addCounter l.descOk 1 }
      ((w = .attnHigh → (s.link n).attnLatch = true) →
        (w = .busyLow → (s.link n).phase ≠ .busyWait ∧ (s.link n).phase ≠ .busyAfter) →
        exec (.signalWaitMet n lv) s =
          .next (State.serveLink n ((p.modUnit n (finished .ok)).modLink n met)).acceptOffers) ∧
      (w = .attnHigh → (s.link n).attnLatch = false → exec (.signalWaitMet n lv) s = .next (State.serveLink n
        ((State.serveLink n ((p.modUnit n (finished .ok)).modLink n fun l =>
          { met l with attnLatch := true, attnOwed := true })).offerAttention n)).acceptOffers)) ∧
    ((s.link n).limitTimer ≠ none → d.expiryIsError = false → exec (.signalWaitLimitExpiry n lv) s =
      .next (State.serveLink n ((s'.modUnit n (finished .waitExpired)).modLink n fun l =>
        { l with wait := none, limitTimer := none, sub := .idle })).acceptOffers) ∧
    ((s.link n).limitTimer ≠ none → d.expiryIsError = true → ∃ t, exec (.signalWaitLimitExpiry n lv) s =
        .next (State.serveLink n t).acceptOffers ∧ s'.OnlyLinks t ∧ (t.link n).state = .holding ∧
      (t.link n).holdCause = some .error ∧ (t.link n).heldCopy = some c.slot ∧ (t.link n).wait = none ∧
      (t.link n).limitTimer = none ∧ (t.link n).sub = .idle ∧ (t.link n).descOk = (s.link n).descOk ∧
      (t.link n).descFailed = addCounter (s.link n).descFailed 1 ∧
      t.errorLog = s.errorLog.after {
        cls := .link, code := .waitExpired, source := .link n, tag := some c.tag, address := none, detail := none } ∧
      ∃ x, (t.unit n).copy c.slot = some x ∧ x.exec = .failed ∧ x.outcome = some .waitExpired ∧ x.bytesDone = some 0)
end

