-- ==== Sys2Proof/Laws/Exec.lean ====
section
/-! SUPPORT. Which meaning runs for each command, one lemma for each arm, so that no proof unfolds exec. -/

namespace Sys2Proof.Machine

variable (s : State)

@[simp] theorem exec_run (w : Word) :
    exec (.run w) s = execRun w s := rfl
@[simp] theorem exec_softReset (w : Word) :
    exec (.softReset w) s = execSoftReset w s := rfl
@[simp] theorem exec_settleWaitEnd :
    exec .settleWaitEnd s = execSettleWaitEnd s := rfl
@[simp] theorem exec_hardwareReset :
    exec .hardwareReset s = execHardwareReset s := rfl
@[simp] theorem exec_transferRingNotify (w : Word) :
    exec (.transferRingNotify w) s = execTransferRingNotify w s := rfl
@[simp] theorem exec_controlRingNotify (w : Word) :
    exec (.controlRingNotify w) s = execControlRingNotify w s := rfl
@[simp] theorem exec_notifyBadSelector (w : Word) :
    exec (.notifyBadSelector w) s = execNotifyBadSelector w s := rfl
@[simp] theorem exec_release (w : Word) :
    exec (.release w) s = execRelease w s := rfl
@[simp] theorem exec_releaseBadSelector (w : Word) :
    exec (.releaseBadSelector w) s = execReleaseBadSelector w s := rfl
@[simp] theorem exec_registerWrite (offset : BitVec 5) (bytes : Nat) (w : Word) :
    exec (.registerWrite offset bytes w) s = execRegisterWrite offset bytes w s := rfl
@[simp] theorem exec_startRecordReadEnd (tag : BusNo) (e : ReadEnd) (lv : Levels) :
    exec (.startRecordReadEnd tag e lv) s = execStartRecordReadEnd tag e lv s := rfl
@[simp] theorem exec_commandFetchFailed (tag : BusNo) (f : MemFailure) (lv : Levels) :
    exec (.commandFetchFailed tag f lv) s = execCommandFetchFailed tag f lv s := rfl
@[simp] theorem exec_unknownCommand (tag : BusNo) (c : Vector Byte 32) (lv : Levels) :
    exec (.unknownCommand tag c lv) s = execUnknownCommand tag c lv s := rfl
@[simp] theorem exec_createStatusRing (tag : BusNo) (c : Vector Byte 32) (lv : Levels) :
    exec (.createStatusRing tag c lv) s = execCreateStatusRing tag c lv s := rfl
@[simp] theorem exec_deleteStatusRing (tag : BusNo) (c : Vector Byte 32) (lv : Levels) :
    exec (.deleteStatusRing tag c lv) s = execDeleteStatusRing tag c lv s := rfl
@[simp] theorem exec_configureLink (tag : BusNo) (c : Vector Byte 32) (lv : Levels) :
    exec (.configureLink tag c lv) s = execConfigureLink tag c lv s := rfl
@[simp] theorem exec_createTransferRing (tag : BusNo) (c : Vector Byte 32) (lv : Levels) :
    exec (.createTransferRing tag c lv) s = execCreateTransferRing tag c lv s := rfl
@[simp] theorem exec_deleteTransferRing (tag : BusNo) (c : Vector Byte 32) (lv : Levels) :
    exec (.deleteTransferRing tag c lv) s = execDeleteTransferRing tag c lv s := rfl
@[simp] theorem exec_resumeLink (tag : BusNo) (c : Vector Byte 32) (lv : Levels) :
    exec (.resumeLink tag c lv) s = execResumeLink tag c lv s := rfl
@[simp] theorem exec_abortLink (tag : BusNo) (c : Vector Byte 32) (lv : Levels) :
    exec (.abortLink tag c lv) s = execAbortLink tag c lv s := rfl
@[simp] theorem exec_setLines (tag : BusNo) (c : Vector Byte 32) (lv : Levels) :
    exec (.setLines tag c lv) s = execSetLines tag c lv s := rfl
@[simp] theorem exec_readCounters (tag : BusNo) (c : Vector Byte 32) (lv : Levels) :
    exec (.readCounters tag c lv) s = execReadCounters tag c lv s := rfl
@[simp] theorem exec_readErrorLog (tag : BusNo) (c : Vector Byte 32) (lv : Levels) :
    exec (.readErrorLog tag c lv) s = execReadErrorLog tag c lv s := rfl
@[simp] theorem exec_descriptorFetchData (tag : BusNo) (bytes : Vector Byte 64) (lv : Levels) :
    exec (.descriptorFetchData tag bytes lv) s = execDescriptorFetchData tag bytes lv s := rfl
@[simp] theorem exec_descriptorSlotFetchFailure (tag : BusNo) (f : MemFailure) (lv : Levels) :
    exec (.descriptorSlotFetchFailure tag f lv) s = execDescriptorSlotFetchFailure tag f lv s := rfl
@[simp] theorem exec_descriptorRereadEnd (tag : BusNo) (e : ReadEnd) (lv : Levels) :
    exec (.descriptorRereadEnd tag e lv) s = execDescriptorRereadEnd tag e lv s := rfl
@[simp] theorem exec_tableReadData (tag : BusNo) (bytes : Vector Byte 64) (lv : Levels) :
    exec (.tableReadData tag bytes lv) s = execTableReadData tag bytes lv s := rfl
@[simp] theorem exec_tableReadFailure (tag : BusNo) (f : MemFailure) (lv : Levels) :
    exec (.tableReadFailure tag f lv) s = execTableReadFailure tag f lv s := rfl
@[simp] theorem exec_fillEnd (tag : BusNo) (e : ReadEnd) (lv : Levels) :
    exec (.fillEnd tag e lv) s = execFillEnd tag e lv s := rfl
@[simp] theorem exec_discardPendingFillEnd (tag : BusNo) (e : ReadEnd) (lv : Levels) :
    exec (.discardPendingFillEnd tag e lv) s = execDiscardPendingFillEnd tag e lv s := rfl
@[simp] theorem exec_storeDone (slot : BusNo) (lv : Levels) :
    exec (.storeDone slot lv) s = execStoreDone slot lv s := rfl
@[simp] theorem exec_storeFailure (slot : BusNo) (f : MemFailure) (lv : Levels) :
    exec (.storeFailure slot f lv) s = execStoreFailure slot f lv s := rfl
@[simp] theorem exec_statusWriteDone (slot : BusNo) (lv : Levels) :
    exec (.statusWriteDone slot lv) s = execStatusWriteDone slot lv s := rfl
@[simp] theorem exec_statusWriteFailed (slot : BusNo) (f : MemFailure) (lv : Levels) :
    exec (.statusWriteFailed slot f lv) s = execStatusWriteFailed slot f lv s := rfl
@[simp] theorem exec_statusRingFailure (slot : BusNo) (f : MemFailure) (lv : Levels) :
    exec (.statusRingFailure slot f lv) s = execStatusRingFailure slot f lv s := rfl
@[simp] theorem exec_messageWriteEnd (slot : BusNo) (e : WriteEnd) (lv : Levels) :
    exec (.messageWriteEnd slot e lv) s = execMessageWriteEnd slot e lv s := rfl
@[simp] theorem exec_counterBlockWriteEnd (slot : BusNo) (e : WriteEnd) (lv : Levels) :
    exec (.counterBlockWriteEnd slot e lv) s = execCounterBlockWriteEnd slot e lv s := rfl
@[simp] theorem exec_errorLogWriteEnd (slot : BusNo) (e : WriteEnd) (lv : Levels) :
    exec (.errorLogWriteEnd slot e lv) s = execErrorLogWriteEnd slot e lv s := rfl
@[simp] theorem exec_responseTimeout (kind : BusKind) (id : BusNo) (lv : Levels) :
    exec (.responseTimeout kind id lv) s = execResponseTimeout kind id lv s := rfl
@[simp] theorem exec_lateResponse (kind : BusKind) (id : BusNo) :
    exec (.lateResponse kind id) s = execLateResponse kind id s := rfl
@[simp] theorem exec_requestIssue (kind : BusKind) (lv : Levels) :
    exec (.requestIssue kind lv) s = execRequestIssue kind lv s := rfl
@[simp] theorem exec_lineGrant (lv : Levels) :
    exec (.lineGrant lv) s = execLineGrant lv s := rfl
@[simp] theorem exec_offerAccept (r : RingId) (lv : Levels) :
    exec (.offerAccept r lv) s = execOfferAccept r lv s := rfl
@[simp] theorem exec_descriptorStart (n : LinkId) (lv : Levels) :
    exec (.descriptorStart n lv) s = execDescriptorStart n lv s := rfl
@[simp] theorem exec_turnaroundEnd (n : LinkId) (lv : Levels) :
    exec (.turnaroundEnd n lv) s = execTurnaroundEnd n lv s := rfl
@[simp] theorem exec_setupEnd (n : LinkId) (lv : Levels) :
    exec (.setupEnd n lv) s = execSetupEnd n lv s := rfl
@[simp] theorem exec_strobeEnd (n : LinkId) (lv : Levels) :
    exec (.strobeEnd n lv) s = execStrobeEnd n lv s := rfl
@[simp] theorem exec_holdEnd (n : LinkId) (lv : Levels) :
    exec (.holdEnd n lv) s = execHoldEnd n lv s := rfl
@[simp] theorem exec_busyLow (n : LinkId) (lv : Levels) :
    exec (.busyLow n lv) s = execBusyLow n lv s := rfl
@[simp] theorem exec_ackPulse (n : LinkId) (lv : Levels) :
    exec (.ackPulse n lv) s = execAckPulse n lv s := rfl
@[simp] theorem exec_handshakeTimeout (n : LinkId) (lv : Levels) :
    exec (.handshakeTimeout n lv) s = execHandshakeTimeout n lv s := rfl
@[simp] theorem exec_inboundHandshakeTimeout (n : LinkId) (lv : Levels) :
    exec (.inboundHandshakeTimeout n lv) s = execInboundHandshakeTimeout n lv s := rfl
@[simp] theorem exec_byteLatch (n : LinkId) (d : Byte) (lv : Levels) :
    exec (.byteLatch n d lv) s = execByteLatch n d lv s := rfl
@[simp] theorem exec_attnRising (n : LinkId) (lv : Levels) :
    exec (.attnRising n lv) s = execAttnRising n lv s := rfl
@[simp] theorem exec_faultFalling (n : LinkId) (lv : Levels) :
    exec (.faultFalling n lv) s = execFaultFalling n lv s := rfl
@[simp] theorem exec_pulseTimerExpiry (n : LinkId) (lv : Levels) :
    exec (.pulseTimerExpiry n lv) s = execPulseTimerExpiry n lv s := rfl
@[simp] theorem exec_signalWaitMet (n : LinkId) (lv : Levels) :
    exec (.signalWaitMet n lv) s = execSignalWaitMet n lv s := rfl
@[simp] theorem exec_signalWaitLimitExpiry (n : LinkId) (lv : Levels) :
    exec (.signalWaitLimitExpiry n lv) s = execSignalWaitLimitExpiry n lv s := rfl
@[simp] theorem exec_moderationTimerExpiry (r : RingId) :
    exec (.moderationTimerExpiry r) s = execModerationTimerExpiry r s := rfl
@[simp] theorem exec_resetRelease :
    exec .resetRelease s = execResetRelease s := rfl

end Sys2Proof.Machine
end

