-- ==== Sys2Proof/Laws/State.lean ====
section
/-! SUPPORT. What each basic update of the state leaves as it was, one lemma for each field, and what it does to the item
it updates. -/

namespace Sys2Proof.Machine

variable (s : State)

/-! ### modLink -/

@[simp] theorem State.modLink_partState (n : LinkId) (f : Link → Link) : (s.modLink n f).partState = s.partState := rfl
@[simp] theorem State.modLink_haltCause (n : LinkId) (f : Link → Link) : (s.modLink n f).haltCause = s.haltCause := rfl
@[simp] theorem State.modLink_startAddr (n : LinkId) (f : Link → Link) : (s.modLink n f).startAddr = s.startAddr := rfl
@[simp] theorem State.modLink_startRead (n : LinkId) (f : Link → Link) : (s.modLink n f).startRead = s.startRead := rfl
@[simp] theorem State.modLink_settleTimer (n : LinkId) (f : Link → Link) : (s.modLink n f).settleTimer = s.settleTimer := rfl
@[simp] theorem State.modLink_resetHeld (n : LinkId) (f : Link → Link) : (s.modLink n f).resetHeld = s.resetHeld := rfl
@[simp] theorem State.modLink_pins (n : LinkId) (f : Link → Link) : (s.modLink n f).pins = s.pins := rfl
@[simp] theorem State.modLink_units (n : LinkId) (f : Link → Link) : (s.modLink n f).units = s.units := rfl
@[simp] theorem State.modLink_lines (n : LinkId) (f : Link → Link) : (s.modLink n f).lines = s.lines := rfl
@[simp] theorem State.modLink_grantPtr (n : LinkId) (f : Link → Link) : (s.modLink n f).grantPtr = s.grantPtr := rfl
@[simp] theorem State.modLink_sc (n : LinkId) (f : Link → Link) : (s.modLink n f).sc = s.sc := rfl
@[simp] theorem State.modLink_sRings (n : LinkId) (f : Link → Link) : (s.modLink n f).sRings = s.sRings := rfl
@[simp] theorem State.modLink_control (n : LinkId) (f : Link → Link) : (s.modLink n f).control = s.control := rfl
@[simp] theorem State.modLink_errorLog (n : LinkId) (f : Link → Link) : (s.modLink n f).errorLog = s.errorLog := rfl
@[simp] theorem State.modLink_notices (n : LinkId) (f : Link → Link) : (s.modLink n f).notices = s.notices := rfl
@[simp] theorem State.modLink_readTags (n : LinkId) (f : Link → Link) : (s.modLink n f).readTags = s.readTags := rfl
@[simp] theorem State.modLink_writeSlots (n : LinkId) (f : Link → Link) : (s.modLink n f).writeSlots = s.writeSlots := rfl
@[simp] theorem State.modLink_readExhausted (n : LinkId) (f : Link → Link) : (s.modLink n f).readExhausted = s.readExhausted := rfl
@[simp] theorem State.modLink_writeExhausted (n : LinkId) (f : Link → Link) : (s.modLink n f).writeExhausted = s.writeExhausted := rfl
@[simp] theorem State.modLink_pointers (n : LinkId) (f : Link → Link) : (s.modLink n f).pointers = s.pointers := rfl
@[simp] theorem State.modLink_lateResponses (n : LinkId) (f : Link → Link) : (s.modLink n f).lateResponses = s.lateResponses := rfl
@[simp] theorem State.modLink_recordsDiscarded (n : LinkId) (f : Link → Link) : (s.modLink n f).recordsDiscarded = s.recordsDiscarded := rfl
@[simp] theorem State.modLink_openValues (n : LinkId) (f : Link → Link) : (s.modLink n f).openValues = s.openValues := rfl
@[simp] theorem State.modLink_pending (n : LinkId) (f : Link → Link) : (s.modLink n f).pending = s.pending := rfl
@[simp] theorem State.modLink_unit (n : LinkId) (f : Link → Link) (m : LinkId) : (s.modLink n f).unit m = s.unit m := rfl
@[simp] theorem State.modLink_line (n : LinkId) (f : Link → Link) (j : LineId) : (s.modLink n f).line j = s.line j := rfl
@[simp] theorem State.modLink_ring (n : LinkId) (f : Link → Link) (r' : RingId) : (s.modLink n f).ring r' = s.ring r' := by cases r' <;> rfl
@[simp] theorem State.modLink_readTag (n : LinkId) (f : Link → Link) (t' : BusNo) : (s.modLink n f).readTag t' = s.readTag t' := rfl
@[simp] theorem State.modLink_writeSlot (n : LinkId) (f : Link → Link) (t' : BusNo) : (s.modLink n f).writeSlot t' = s.writeSlot t' := rfl
@[simp] theorem State.modLink_pin (n : LinkId) (f : Link → Link) (m : LinkId) : (s.modLink n f).pin m = s.pin m := rfl

/-! ### modUnit -/

@[simp] theorem State.modUnit_partState (n : LinkId) (f : RingUnit → RingUnit) : (s.modUnit n f).partState = s.partState := rfl
@[simp] theorem State.modUnit_haltCause (n : LinkId) (f : RingUnit → RingUnit) : (s.modUnit n f).haltCause = s.haltCause := rfl
@[simp] theorem State.modUnit_startAddr (n : LinkId) (f : RingUnit → RingUnit) : (s.modUnit n f).startAddr = s.startAddr := rfl
@[simp] theorem State.modUnit_startRead (n : LinkId) (f : RingUnit → RingUnit) : (s.modUnit n f).startRead = s.startRead := rfl
@[simp] theorem State.modUnit_settleTimer (n : LinkId) (f : RingUnit → RingUnit) : (s.modUnit n f).settleTimer = s.settleTimer := rfl
@[simp] theorem State.modUnit_resetHeld (n : LinkId) (f : RingUnit → RingUnit) : (s.modUnit n f).resetHeld = s.resetHeld := rfl
@[simp] theorem State.modUnit_pins (n : LinkId) (f : RingUnit → RingUnit) : (s.modUnit n f).pins = s.pins := rfl
@[simp] theorem State.modUnit_links (n : LinkId) (f : RingUnit → RingUnit) : (s.modUnit n f).links = s.links := rfl
@[simp] theorem State.modUnit_lines (n : LinkId) (f : RingUnit → RingUnit) : (s.modUnit n f).lines = s.lines := rfl
@[simp] theorem State.modUnit_grantPtr (n : LinkId) (f : RingUnit → RingUnit) : (s.modUnit n f).grantPtr = s.grantPtr := rfl
@[simp] theorem State.modUnit_sc (n : LinkId) (f : RingUnit → RingUnit) : (s.modUnit n f).sc = s.sc := rfl
@[simp] theorem State.modUnit_sRings (n : LinkId) (f : RingUnit → RingUnit) : (s.modUnit n f).sRings = s.sRings := rfl
@[simp] theorem State.modUnit_control (n : LinkId) (f : RingUnit → RingUnit) : (s.modUnit n f).control = s.control := rfl
@[simp] theorem State.modUnit_errorLog (n : LinkId) (f : RingUnit → RingUnit) : (s.modUnit n f).errorLog = s.errorLog := rfl
@[simp] theorem State.modUnit_notices (n : LinkId) (f : RingUnit → RingUnit) : (s.modUnit n f).notices = s.notices := rfl
@[simp] theorem State.modUnit_readTags (n : LinkId) (f : RingUnit → RingUnit) : (s.modUnit n f).readTags = s.readTags := rfl
@[simp] theorem State.modUnit_writeSlots (n : LinkId) (f : RingUnit → RingUnit) : (s.modUnit n f).writeSlots = s.writeSlots := rfl
@[simp] theorem State.modUnit_readExhausted (n : LinkId) (f : RingUnit → RingUnit) : (s.modUnit n f).readExhausted = s.readExhausted := rfl
@[simp] theorem State.modUnit_writeExhausted (n : LinkId) (f : RingUnit → RingUnit) : (s.modUnit n f).writeExhausted = s.writeExhausted := rfl
@[simp] theorem State.modUnit_pointers (n : LinkId) (f : RingUnit → RingUnit) : (s.modUnit n f).pointers = s.pointers := rfl
@[simp] theorem State.modUnit_lateResponses (n : LinkId) (f : RingUnit → RingUnit) : (s.modUnit n f).lateResponses = s.lateResponses := rfl
@[simp] theorem State.modUnit_recordsDiscarded (n : LinkId) (f : RingUnit → RingUnit) : (s.modUnit n f).recordsDiscarded = s.recordsDiscarded := rfl
@[simp] theorem State.modUnit_openValues (n : LinkId) (f : RingUnit → RingUnit) : (s.modUnit n f).openValues = s.openValues := rfl
@[simp] theorem State.modUnit_pending (n : LinkId) (f : RingUnit → RingUnit) : (s.modUnit n f).pending = s.pending := rfl
@[simp] theorem State.modUnit_link (n : LinkId) (f : RingUnit → RingUnit) (m : LinkId) : (s.modUnit n f).link m = s.link m := rfl
@[simp] theorem State.modUnit_line (n : LinkId) (f : RingUnit → RingUnit) (j : LineId) : (s.modUnit n f).line j = s.line j := rfl
@[simp] theorem State.modUnit_ring (n : LinkId) (f : RingUnit → RingUnit) (r' : RingId) : (s.modUnit n f).ring r' = s.ring r' := by cases r' <;> rfl
@[simp] theorem State.modUnit_readTag (n : LinkId) (f : RingUnit → RingUnit) (t' : BusNo) : (s.modUnit n f).readTag t' = s.readTag t' := rfl
@[simp] theorem State.modUnit_writeSlot (n : LinkId) (f : RingUnit → RingUnit) (t' : BusNo) : (s.modUnit n f).writeSlot t' = s.writeSlot t' := rfl
@[simp] theorem State.modUnit_pin (n : LinkId) (f : RingUnit → RingUnit) (m : LinkId) : (s.modUnit n f).pin m = s.pin m := rfl

/-! ### modLine -/

@[simp] theorem State.modLine_partState (i : LineId) (f : Line → Line) : (s.modLine i f).partState = s.partState := rfl
@[simp] theorem State.modLine_haltCause (i : LineId) (f : Line → Line) : (s.modLine i f).haltCause = s.haltCause := rfl
@[simp] theorem State.modLine_startAddr (i : LineId) (f : Line → Line) : (s.modLine i f).startAddr = s.startAddr := rfl
@[simp] theorem State.modLine_startRead (i : LineId) (f : Line → Line) : (s.modLine i f).startRead = s.startRead := rfl
@[simp] theorem State.modLine_settleTimer (i : LineId) (f : Line → Line) : (s.modLine i f).settleTimer = s.settleTimer := rfl
@[simp] theorem State.modLine_resetHeld (i : LineId) (f : Line → Line) : (s.modLine i f).resetHeld = s.resetHeld := rfl
@[simp] theorem State.modLine_pins (i : LineId) (f : Line → Line) : (s.modLine i f).pins = s.pins := rfl
@[simp] theorem State.modLine_links (i : LineId) (f : Line → Line) : (s.modLine i f).links = s.links := rfl
@[simp] theorem State.modLine_units (i : LineId) (f : Line → Line) : (s.modLine i f).units = s.units := rfl
@[simp] theorem State.modLine_grantPtr (i : LineId) (f : Line → Line) : (s.modLine i f).grantPtr = s.grantPtr := rfl
@[simp] theorem State.modLine_sc (i : LineId) (f : Line → Line) : (s.modLine i f).sc = s.sc := rfl
@[simp] theorem State.modLine_sRings (i : LineId) (f : Line → Line) : (s.modLine i f).sRings = s.sRings := rfl
@[simp] theorem State.modLine_control (i : LineId) (f : Line → Line) : (s.modLine i f).control = s.control := rfl
@[simp] theorem State.modLine_errorLog (i : LineId) (f : Line → Line) : (s.modLine i f).errorLog = s.errorLog := rfl
@[simp] theorem State.modLine_notices (i : LineId) (f : Line → Line) : (s.modLine i f).notices = s.notices := rfl
@[simp] theorem State.modLine_readTags (i : LineId) (f : Line → Line) : (s.modLine i f).readTags = s.readTags := rfl
@[simp] theorem State.modLine_writeSlots (i : LineId) (f : Line → Line) : (s.modLine i f).writeSlots = s.writeSlots := rfl
@[simp] theorem State.modLine_readExhausted (i : LineId) (f : Line → Line) : (s.modLine i f).readExhausted = s.readExhausted := rfl
@[simp] theorem State.modLine_writeExhausted (i : LineId) (f : Line → Line) : (s.modLine i f).writeExhausted = s.writeExhausted := rfl
@[simp] theorem State.modLine_pointers (i : LineId) (f : Line → Line) : (s.modLine i f).pointers = s.pointers := rfl
@[simp] theorem State.modLine_lateResponses (i : LineId) (f : Line → Line) : (s.modLine i f).lateResponses = s.lateResponses := rfl
@[simp] theorem State.modLine_recordsDiscarded (i : LineId) (f : Line → Line) : (s.modLine i f).recordsDiscarded = s.recordsDiscarded := rfl
@[simp] theorem State.modLine_openValues (i : LineId) (f : Line → Line) : (s.modLine i f).openValues = s.openValues := rfl
@[simp] theorem State.modLine_pending (i : LineId) (f : Line → Line) : (s.modLine i f).pending = s.pending := rfl
@[simp] theorem State.modLine_link (i : LineId) (f : Line → Line) (m : LinkId) : (s.modLine i f).link m = s.link m := rfl
@[simp] theorem State.modLine_unit (i : LineId) (f : Line → Line) (m : LinkId) : (s.modLine i f).unit m = s.unit m := rfl
@[simp] theorem State.modLine_ring (i : LineId) (f : Line → Line) (r' : RingId) : (s.modLine i f).ring r' = s.ring r' := by cases r' <;> rfl
@[simp] theorem State.modLine_readTag (i : LineId) (f : Line → Line) (t' : BusNo) : (s.modLine i f).readTag t' = s.readTag t' := rfl
@[simp] theorem State.modLine_writeSlot (i : LineId) (f : Line → Line) (t' : BusNo) : (s.modLine i f).writeSlot t' = s.writeSlot t' := rfl
@[simp] theorem State.modLine_pin (i : LineId) (f : Line → Line) (m : LinkId) : (s.modLine i f).pin m = s.pin m := rfl

/-! ### modControl -/

@[simp] theorem State.modControl_partState (f : Control → Control) : (s.modControl f).partState = s.partState := rfl
@[simp] theorem State.modControl_haltCause (f : Control → Control) : (s.modControl f).haltCause = s.haltCause := rfl
@[simp] theorem State.modControl_startAddr (f : Control → Control) : (s.modControl f).startAddr = s.startAddr := rfl
@[simp] theorem State.modControl_startRead (f : Control → Control) : (s.modControl f).startRead = s.startRead := rfl
@[simp] theorem State.modControl_settleTimer (f : Control → Control) : (s.modControl f).settleTimer = s.settleTimer := rfl
@[simp] theorem State.modControl_resetHeld (f : Control → Control) : (s.modControl f).resetHeld = s.resetHeld := rfl
@[simp] theorem State.modControl_pins (f : Control → Control) : (s.modControl f).pins = s.pins := rfl
@[simp] theorem State.modControl_links (f : Control → Control) : (s.modControl f).links = s.links := rfl
@[simp] theorem State.modControl_units (f : Control → Control) : (s.modControl f).units = s.units := rfl
@[simp] theorem State.modControl_lines (f : Control → Control) : (s.modControl f).lines = s.lines := rfl
@[simp] theorem State.modControl_grantPtr (f : Control → Control) : (s.modControl f).grantPtr = s.grantPtr := rfl
@[simp] theorem State.modControl_sc (f : Control → Control) : (s.modControl f).sc = s.sc := rfl
@[simp] theorem State.modControl_sRings (f : Control → Control) : (s.modControl f).sRings = s.sRings := rfl
@[simp] theorem State.modControl_errorLog (f : Control → Control) : (s.modControl f).errorLog = s.errorLog := rfl
@[simp] theorem State.modControl_notices (f : Control → Control) : (s.modControl f).notices = s.notices := rfl
@[simp] theorem State.modControl_readTags (f : Control → Control) : (s.modControl f).readTags = s.readTags := rfl
@[simp] theorem State.modControl_writeSlots (f : Control → Control) : (s.modControl f).writeSlots = s.writeSlots := rfl
@[simp] theorem State.modControl_readExhausted (f : Control → Control) : (s.modControl f).readExhausted = s.readExhausted := rfl
@[simp] theorem State.modControl_writeExhausted (f : Control → Control) : (s.modControl f).writeExhausted = s.writeExhausted := rfl
@[simp] theorem State.modControl_pointers (f : Control → Control) : (s.modControl f).pointers = s.pointers := rfl
@[simp] theorem State.modControl_lateResponses (f : Control → Control) : (s.modControl f).lateResponses = s.lateResponses := rfl
@[simp] theorem State.modControl_recordsDiscarded (f : Control → Control) : (s.modControl f).recordsDiscarded = s.recordsDiscarded := rfl
@[simp] theorem State.modControl_openValues (f : Control → Control) : (s.modControl f).openValues = s.openValues := rfl
@[simp] theorem State.modControl_pending (f : Control → Control) : (s.modControl f).pending = s.pending := rfl
@[simp] theorem State.modControl_link (f : Control → Control) (m : LinkId) : (s.modControl f).link m = s.link m := rfl
@[simp] theorem State.modControl_unit (f : Control → Control) (m : LinkId) : (s.modControl f).unit m = s.unit m := rfl
@[simp] theorem State.modControl_line (f : Control → Control) (j : LineId) : (s.modControl f).line j = s.line j := rfl
@[simp] theorem State.modControl_ring (f : Control → Control) (r' : RingId) : (s.modControl f).ring r' = s.ring r' := by cases r' <;> rfl
@[simp] theorem State.modControl_readTag (f : Control → Control) (t' : BusNo) : (s.modControl f).readTag t' = s.readTag t' := rfl
@[simp] theorem State.modControl_writeSlot (f : Control → Control) (t' : BusNo) : (s.modControl f).writeSlot t' = s.writeSlot t' := rfl
@[simp] theorem State.modControl_pin (f : Control → Control) (m : LinkId) : (s.modControl f).pin m = s.pin m := rfl

/-! ### modPin -/

@[simp] theorem State.modPin_partState (n : LinkId) (f : PinLevels → PinLevels) : (s.modPin n f).partState = s.partState := rfl
@[simp] theorem State.modPin_haltCause (n : LinkId) (f : PinLevels → PinLevels) : (s.modPin n f).haltCause = s.haltCause := rfl
@[simp] theorem State.modPin_startAddr (n : LinkId) (f : PinLevels → PinLevels) : (s.modPin n f).startAddr = s.startAddr := rfl
@[simp] theorem State.modPin_startRead (n : LinkId) (f : PinLevels → PinLevels) : (s.modPin n f).startRead = s.startRead := rfl
@[simp] theorem State.modPin_settleTimer (n : LinkId) (f : PinLevels → PinLevels) : (s.modPin n f).settleTimer = s.settleTimer := rfl
@[simp] theorem State.modPin_resetHeld (n : LinkId) (f : PinLevels → PinLevels) : (s.modPin n f).resetHeld = s.resetHeld := rfl
@[simp] theorem State.modPin_links (n : LinkId) (f : PinLevels → PinLevels) : (s.modPin n f).links = s.links := rfl
@[simp] theorem State.modPin_units (n : LinkId) (f : PinLevels → PinLevels) : (s.modPin n f).units = s.units := rfl
@[simp] theorem State.modPin_lines (n : LinkId) (f : PinLevels → PinLevels) : (s.modPin n f).lines = s.lines := rfl
@[simp] theorem State.modPin_grantPtr (n : LinkId) (f : PinLevels → PinLevels) : (s.modPin n f).grantPtr = s.grantPtr := rfl
@[simp] theorem State.modPin_sc (n : LinkId) (f : PinLevels → PinLevels) : (s.modPin n f).sc = s.sc := rfl
@[simp] theorem State.modPin_sRings (n : LinkId) (f : PinLevels → PinLevels) : (s.modPin n f).sRings = s.sRings := rfl
@[simp] theorem State.modPin_control (n : LinkId) (f : PinLevels → PinLevels) : (s.modPin n f).control = s.control := rfl
@[simp] theorem State.modPin_errorLog (n : LinkId) (f : PinLevels → PinLevels) : (s.modPin n f).errorLog = s.errorLog := rfl
@[simp] theorem State.modPin_notices (n : LinkId) (f : PinLevels → PinLevels) : (s.modPin n f).notices = s.notices := rfl
@[simp] theorem State.modPin_readTags (n : LinkId) (f : PinLevels → PinLevels) : (s.modPin n f).readTags = s.readTags := rfl
@[simp] theorem State.modPin_writeSlots (n : LinkId) (f : PinLevels → PinLevels) : (s.modPin n f).writeSlots = s.writeSlots := rfl
@[simp] theorem State.modPin_readExhausted (n : LinkId) (f : PinLevels → PinLevels) : (s.modPin n f).readExhausted = s.readExhausted := rfl
@[simp] theorem State.modPin_writeExhausted (n : LinkId) (f : PinLevels → PinLevels) : (s.modPin n f).writeExhausted = s.writeExhausted := rfl
@[simp] theorem State.modPin_pointers (n : LinkId) (f : PinLevels → PinLevels) : (s.modPin n f).pointers = s.pointers := rfl
@[simp] theorem State.modPin_lateResponses (n : LinkId) (f : PinLevels → PinLevels) : (s.modPin n f).lateResponses = s.lateResponses := rfl
@[simp] theorem State.modPin_recordsDiscarded (n : LinkId) (f : PinLevels → PinLevels) : (s.modPin n f).recordsDiscarded = s.recordsDiscarded := rfl
@[simp] theorem State.modPin_openValues (n : LinkId) (f : PinLevels → PinLevels) : (s.modPin n f).openValues = s.openValues := rfl
@[simp] theorem State.modPin_pending (n : LinkId) (f : PinLevels → PinLevels) : (s.modPin n f).pending = s.pending := rfl
@[simp] theorem State.modPin_link (n : LinkId) (f : PinLevels → PinLevels) (m : LinkId) : (s.modPin n f).link m = s.link m := rfl
@[simp] theorem State.modPin_unit (n : LinkId) (f : PinLevels → PinLevels) (m : LinkId) : (s.modPin n f).unit m = s.unit m := rfl
@[simp] theorem State.modPin_line (n : LinkId) (f : PinLevels → PinLevels) (j : LineId) : (s.modPin n f).line j = s.line j := rfl
@[simp] theorem State.modPin_ring (n : LinkId) (f : PinLevels → PinLevels) (r' : RingId) : (s.modPin n f).ring r' = s.ring r' := by cases r' <;> rfl
@[simp] theorem State.modPin_readTag (n : LinkId) (f : PinLevels → PinLevels) (t' : BusNo) : (s.modPin n f).readTag t' = s.readTag t' := rfl
@[simp] theorem State.modPin_writeSlot (n : LinkId) (f : PinLevels → PinLevels) (t' : BusNo) : (s.modPin n f).writeSlot t' = s.writeSlot t' := rfl

/-! ### sense -/

@[simp] theorem State.sense_partState (lv : Levels) : (s.sense lv).partState = s.partState := rfl
@[simp] theorem State.sense_haltCause (lv : Levels) : (s.sense lv).haltCause = s.haltCause := rfl
@[simp] theorem State.sense_startAddr (lv : Levels) : (s.sense lv).startAddr = s.startAddr := rfl
@[simp] theorem State.sense_startRead (lv : Levels) : (s.sense lv).startRead = s.startRead := rfl
@[simp] theorem State.sense_settleTimer (lv : Levels) : (s.sense lv).settleTimer = s.settleTimer := rfl
@[simp] theorem State.sense_resetHeld (lv : Levels) : (s.sense lv).resetHeld = s.resetHeld := rfl
@[simp] theorem State.sense_links (lv : Levels) : (s.sense lv).links = s.links := rfl
@[simp] theorem State.sense_units (lv : Levels) : (s.sense lv).units = s.units := rfl
@[simp] theorem State.sense_lines (lv : Levels) : (s.sense lv).lines = s.lines := rfl
@[simp] theorem State.sense_grantPtr (lv : Levels) : (s.sense lv).grantPtr = s.grantPtr := rfl
@[simp] theorem State.sense_sc (lv : Levels) : (s.sense lv).sc = s.sc := rfl
@[simp] theorem State.sense_sRings (lv : Levels) : (s.sense lv).sRings = s.sRings := rfl
@[simp] theorem State.sense_control (lv : Levels) : (s.sense lv).control = s.control := rfl
@[simp] theorem State.sense_errorLog (lv : Levels) : (s.sense lv).errorLog = s.errorLog := rfl
@[simp] theorem State.sense_notices (lv : Levels) : (s.sense lv).notices = s.notices := rfl
@[simp] theorem State.sense_readTags (lv : Levels) : (s.sense lv).readTags = s.readTags := rfl
@[simp] theorem State.sense_writeSlots (lv : Levels) : (s.sense lv).writeSlots = s.writeSlots := rfl
@[simp] theorem State.sense_readExhausted (lv : Levels) : (s.sense lv).readExhausted = s.readExhausted := rfl
@[simp] theorem State.sense_writeExhausted (lv : Levels) : (s.sense lv).writeExhausted = s.writeExhausted := rfl
@[simp] theorem State.sense_pointers (lv : Levels) : (s.sense lv).pointers = s.pointers := rfl
@[simp] theorem State.sense_lateResponses (lv : Levels) : (s.sense lv).lateResponses = s.lateResponses := rfl
@[simp] theorem State.sense_recordsDiscarded (lv : Levels) : (s.sense lv).recordsDiscarded = s.recordsDiscarded := rfl
@[simp] theorem State.sense_openValues (lv : Levels) : (s.sense lv).openValues = s.openValues := rfl
@[simp] theorem State.sense_pending (lv : Levels) : (s.sense lv).pending = s.pending := rfl
@[simp] theorem State.sense_link (lv : Levels) (m : LinkId) : (s.sense lv).link m = s.link m := rfl
@[simp] theorem State.sense_unit (lv : Levels) (m : LinkId) : (s.sense lv).unit m = s.unit m := rfl
@[simp] theorem State.sense_line (lv : Levels) (j : LineId) : (s.sense lv).line j = s.line j := rfl
@[simp] theorem State.sense_ring (lv : Levels) (r' : RingId) : (s.sense lv).ring r' = s.ring r' := by cases r' <;> rfl
@[simp] theorem State.sense_readTag (lv : Levels) (t' : BusNo) : (s.sense lv).readTag t' = s.readTag t' := rfl
@[simp] theorem State.sense_writeSlot (lv : Levels) (t' : BusNo) : (s.sense lv).writeSlot t' = s.writeSlot t' := rfl

/-! ### modRing -/

@[simp] theorem State.modRing_partState (r : RingId) (f : StatusRing → StatusRing) : (s.modRing r f).partState = s.partState := by cases r <;> rfl
@[simp] theorem State.modRing_haltCause (r : RingId) (f : StatusRing → StatusRing) : (s.modRing r f).haltCause = s.haltCause := by cases r <;> rfl
@[simp] theorem State.modRing_startAddr (r : RingId) (f : StatusRing → StatusRing) : (s.modRing r f).startAddr = s.startAddr := by cases r <;> rfl
@[simp] theorem State.modRing_startRead (r : RingId) (f : StatusRing → StatusRing) : (s.modRing r f).startRead = s.startRead := by cases r <;> rfl
@[simp] theorem State.modRing_settleTimer (r : RingId) (f : StatusRing → StatusRing) : (s.modRing r f).settleTimer = s.settleTimer := by cases r <;> rfl
@[simp] theorem State.modRing_resetHeld (r : RingId) (f : StatusRing → StatusRing) : (s.modRing r f).resetHeld = s.resetHeld := by cases r <;> rfl
@[simp] theorem State.modRing_pins (r : RingId) (f : StatusRing → StatusRing) : (s.modRing r f).pins = s.pins := by cases r <;> rfl
@[simp] theorem State.modRing_links (r : RingId) (f : StatusRing → StatusRing) : (s.modRing r f).links = s.links := by cases r <;> rfl
@[simp] theorem State.modRing_units (r : RingId) (f : StatusRing → StatusRing) : (s.modRing r f).units = s.units := by cases r <;> rfl
@[simp] theorem State.modRing_lines (r : RingId) (f : StatusRing → StatusRing) : (s.modRing r f).lines = s.lines := by cases r <;> rfl
@[simp] theorem State.modRing_grantPtr (r : RingId) (f : StatusRing → StatusRing) : (s.modRing r f).grantPtr = s.grantPtr := by cases r <;> rfl
@[simp] theorem State.modRing_control (r : RingId) (f : StatusRing → StatusRing) : (s.modRing r f).control = s.control := by cases r <;> rfl
@[simp] theorem State.modRing_errorLog (r : RingId) (f : StatusRing → StatusRing) : (s.modRing r f).errorLog = s.errorLog := by cases r <;> rfl
@[simp] theorem State.modRing_notices (r : RingId) (f : StatusRing → StatusRing) : (s.modRing r f).notices = s.notices := by cases r <;> rfl
@[simp] theorem State.modRing_readTags (r : RingId) (f : StatusRing → StatusRing) : (s.modRing r f).readTags = s.readTags := by cases r <;> rfl
@[simp] theorem State.modRing_writeSlots (r : RingId) (f : StatusRing → StatusRing) : (s.modRing r f).writeSlots = s.writeSlots := by cases r <;> rfl
@[simp] theorem State.modRing_readExhausted (r : RingId) (f : StatusRing → StatusRing) : (s.modRing r f).readExhausted = s.readExhausted := by cases r <;> rfl
@[simp] theorem State.modRing_writeExhausted (r : RingId) (f : StatusRing → StatusRing) : (s.modRing r f).writeExhausted = s.writeExhausted := by cases r <;> rfl
@[simp] theorem State.modRing_pointers (r : RingId) (f : StatusRing → StatusRing) : (s.modRing r f).pointers = s.pointers := by cases r <;> rfl
@[simp] theorem State.modRing_lateResponses (r : RingId) (f : StatusRing → StatusRing) : (s.modRing r f).lateResponses = s.lateResponses := by cases r <;> rfl
@[simp] theorem State.modRing_recordsDiscarded (r : RingId) (f : StatusRing → StatusRing) : (s.modRing r f).recordsDiscarded = s.recordsDiscarded := by cases r <;> rfl
@[simp] theorem State.modRing_openValues (r : RingId) (f : StatusRing → StatusRing) : (s.modRing r f).openValues = s.openValues := by cases r <;> rfl
@[simp] theorem State.modRing_pending (r : RingId) (f : StatusRing → StatusRing) : (s.modRing r f).pending = s.pending := by cases r <;> rfl
@[simp] theorem State.modRing_link (r : RingId) (f : StatusRing → StatusRing) (m : LinkId) : (s.modRing r f).link m = s.link m := by cases r <;> rfl
@[simp] theorem State.modRing_unit (r : RingId) (f : StatusRing → StatusRing) (m : LinkId) : (s.modRing r f).unit m = s.unit m := by cases r <;> rfl
@[simp] theorem State.modRing_line (r : RingId) (f : StatusRing → StatusRing) (j : LineId) : (s.modRing r f).line j = s.line j := by cases r <;> rfl
@[simp] theorem State.modRing_readTag (r : RingId) (f : StatusRing → StatusRing) (t' : BusNo) : (s.modRing r f).readTag t' = s.readTag t' := by cases r <;> rfl
@[simp] theorem State.modRing_writeSlot (r : RingId) (f : StatusRing → StatusRing) (t' : BusNo) : (s.modRing r f).writeSlot t' = s.writeSlot t' := by cases r <;> rfl
@[simp] theorem State.modRing_pin (r : RingId) (f : StatusRing → StatusRing) (m : LinkId) : (s.modRing r f).pin m = s.pin m := by cases r <;> rfl

/-! ### modIdent -/

@[simp] theorem State.modIdent_partState (k : BusKind) (t : BusNo) (f : Ident → Ident) : (s.modIdent k t f).partState = s.partState := by cases k <;> rfl
@[simp] theorem State.modIdent_haltCause (k : BusKind) (t : BusNo) (f : Ident → Ident) : (s.modIdent k t f).haltCause = s.haltCause := by cases k <;> rfl
@[simp] theorem State.modIdent_startAddr (k : BusKind) (t : BusNo) (f : Ident → Ident) : (s.modIdent k t f).startAddr = s.startAddr := by cases k <;> rfl
@[simp] theorem State.modIdent_startRead (k : BusKind) (t : BusNo) (f : Ident → Ident) : (s.modIdent k t f).startRead = s.startRead := by cases k <;> rfl
@[simp] theorem State.modIdent_settleTimer (k : BusKind) (t : BusNo) (f : Ident → Ident) : (s.modIdent k t f).settleTimer = s.settleTimer := by cases k <;> rfl
@[simp] theorem State.modIdent_resetHeld (k : BusKind) (t : BusNo) (f : Ident → Ident) : (s.modIdent k t f).resetHeld = s.resetHeld := by cases k <;> rfl
@[simp] theorem State.modIdent_pins (k : BusKind) (t : BusNo) (f : Ident → Ident) : (s.modIdent k t f).pins = s.pins := by cases k <;> rfl
@[simp] theorem State.modIdent_links (k : BusKind) (t : BusNo) (f : Ident → Ident) : (s.modIdent k t f).links = s.links := by cases k <;> rfl
@[simp] theorem State.modIdent_units (k : BusKind) (t : BusNo) (f : Ident → Ident) : (s.modIdent k t f).units = s.units := by cases k <;> rfl
@[simp] theorem State.modIdent_lines (k : BusKind) (t : BusNo) (f : Ident → Ident) : (s.modIdent k t f).lines = s.lines := by cases k <;> rfl
@[simp] theorem State.modIdent_grantPtr (k : BusKind) (t : BusNo) (f : Ident → Ident) : (s.modIdent k t f).grantPtr = s.grantPtr := by cases k <;> rfl
@[simp] theorem State.modIdent_sc (k : BusKind) (t : BusNo) (f : Ident → Ident) : (s.modIdent k t f).sc = s.sc := by cases k <;> rfl
@[simp] theorem State.modIdent_sRings (k : BusKind) (t : BusNo) (f : Ident → Ident) : (s.modIdent k t f).sRings = s.sRings := by cases k <;> rfl
@[simp] theorem State.modIdent_control (k : BusKind) (t : BusNo) (f : Ident → Ident) : (s.modIdent k t f).control = s.control := by cases k <;> rfl
@[simp] theorem State.modIdent_errorLog (k : BusKind) (t : BusNo) (f : Ident → Ident) : (s.modIdent k t f).errorLog = s.errorLog := by cases k <;> rfl
@[simp] theorem State.modIdent_notices (k : BusKind) (t : BusNo) (f : Ident → Ident) : (s.modIdent k t f).notices = s.notices := by cases k <;> rfl
@[simp] theorem State.modIdent_readExhausted (k : BusKind) (t : BusNo) (f : Ident → Ident) : (s.modIdent k t f).readExhausted = s.readExhausted := by cases k <;> rfl
@[simp] theorem State.modIdent_writeExhausted (k : BusKind) (t : BusNo) (f : Ident → Ident) : (s.modIdent k t f).writeExhausted = s.writeExhausted := by cases k <;> rfl
@[simp] theorem State.modIdent_pointers (k : BusKind) (t : BusNo) (f : Ident → Ident) : (s.modIdent k t f).pointers = s.pointers := by cases k <;> rfl
@[simp] theorem State.modIdent_lateResponses (k : BusKind) (t : BusNo) (f : Ident → Ident) : (s.modIdent k t f).lateResponses = s.lateResponses := by cases k <;> rfl
@[simp] theorem State.modIdent_recordsDiscarded (k : BusKind) (t : BusNo) (f : Ident → Ident) : (s.modIdent k t f).recordsDiscarded = s.recordsDiscarded := by cases k <;> rfl
@[simp] theorem State.modIdent_openValues (k : BusKind) (t : BusNo) (f : Ident → Ident) : (s.modIdent k t f).openValues = s.openValues := by cases k <;> rfl
@[simp] theorem State.modIdent_pending (k : BusKind) (t : BusNo) (f : Ident → Ident) : (s.modIdent k t f).pending = s.pending := by cases k <;> rfl
@[simp] theorem State.modIdent_link (k : BusKind) (t : BusNo) (f : Ident → Ident) (m : LinkId) : (s.modIdent k t f).link m = s.link m := by cases k <;> rfl
@[simp] theorem State.modIdent_unit (k : BusKind) (t : BusNo) (f : Ident → Ident) (m : LinkId) : (s.modIdent k t f).unit m = s.unit m := by cases k <;> rfl
@[simp] theorem State.modIdent_line (k : BusKind) (t : BusNo) (f : Ident → Ident) (j : LineId) : (s.modIdent k t f).line j = s.line j := by cases k <;> rfl
@[simp] theorem State.modIdent_ring (k : BusKind) (t : BusNo) (f : Ident → Ident) (r' : RingId) : (s.modIdent k t f).ring r' = s.ring r' := by cases r' <;> simp [State.ring]
@[simp] theorem State.modIdent_pin (k : BusKind) (t : BusNo) (f : Ident → Ident) (m : LinkId) : (s.modIdent k t f).pin m = s.pin m := by cases k <;> rfl

/-! ### setCursor -/

@[simp] theorem State.setCursor_partState (n : LinkId) (k : CursorKind) (p : Cursor) : (s.setCursor n k p).partState = s.partState := rfl
@[simp] theorem State.setCursor_haltCause (n : LinkId) (k : CursorKind) (p : Cursor) : (s.setCursor n k p).haltCause = s.haltCause := rfl
@[simp] theorem State.setCursor_startAddr (n : LinkId) (k : CursorKind) (p : Cursor) : (s.setCursor n k p).startAddr = s.startAddr := rfl
@[simp] theorem State.setCursor_startRead (n : LinkId) (k : CursorKind) (p : Cursor) : (s.setCursor n k p).startRead = s.startRead := rfl
@[simp] theorem State.setCursor_settleTimer (n : LinkId) (k : CursorKind) (p : Cursor) : (s.setCursor n k p).settleTimer = s.settleTimer := rfl
@[simp] theorem State.setCursor_resetHeld (n : LinkId) (k : CursorKind) (p : Cursor) : (s.setCursor n k p).resetHeld = s.resetHeld := rfl
@[simp] theorem State.setCursor_pins (n : LinkId) (k : CursorKind) (p : Cursor) : (s.setCursor n k p).pins = s.pins := rfl
@[simp] theorem State.setCursor_units (n : LinkId) (k : CursorKind) (p : Cursor) : (s.setCursor n k p).units = s.units := rfl
@[simp] theorem State.setCursor_lines (n : LinkId) (k : CursorKind) (p : Cursor) : (s.setCursor n k p).lines = s.lines := rfl
@[simp] theorem State.setCursor_grantPtr (n : LinkId) (k : CursorKind) (p : Cursor) : (s.setCursor n k p).grantPtr = s.grantPtr := rfl
@[simp] theorem State.setCursor_sc (n : LinkId) (k : CursorKind) (p : Cursor) : (s.setCursor n k p).sc = s.sc := rfl
@[simp] theorem State.setCursor_sRings (n : LinkId) (k : CursorKind) (p : Cursor) : (s.setCursor n k p).sRings = s.sRings := rfl
@[simp] theorem State.setCursor_control (n : LinkId) (k : CursorKind) (p : Cursor) : (s.setCursor n k p).control = s.control := rfl
@[simp] theorem State.setCursor_errorLog (n : LinkId) (k : CursorKind) (p : Cursor) : (s.setCursor n k p).errorLog = s.errorLog := rfl
@[simp] theorem State.setCursor_notices (n : LinkId) (k : CursorKind) (p : Cursor) : (s.setCursor n k p).notices = s.notices := rfl
@[simp] theorem State.setCursor_readTags (n : LinkId) (k : CursorKind) (p : Cursor) : (s.setCursor n k p).readTags = s.readTags := rfl
@[simp] theorem State.setCursor_writeSlots (n : LinkId) (k : CursorKind) (p : Cursor) : (s.setCursor n k p).writeSlots = s.writeSlots := rfl
@[simp] theorem State.setCursor_readExhausted (n : LinkId) (k : CursorKind) (p : Cursor) : (s.setCursor n k p).readExhausted = s.readExhausted := rfl
@[simp] theorem State.setCursor_writeExhausted (n : LinkId) (k : CursorKind) (p : Cursor) : (s.setCursor n k p).writeExhausted = s.writeExhausted := rfl
@[simp] theorem State.setCursor_pointers (n : LinkId) (k : CursorKind) (p : Cursor) : (s.setCursor n k p).pointers = s.pointers := rfl
@[simp] theorem State.setCursor_lateResponses (n : LinkId) (k : CursorKind) (p : Cursor) : (s.setCursor n k p).lateResponses = s.lateResponses := rfl
@[simp] theorem State.setCursor_recordsDiscarded (n : LinkId) (k : CursorKind) (p : Cursor) : (s.setCursor n k p).recordsDiscarded = s.recordsDiscarded := rfl
@[simp] theorem State.setCursor_openValues (n : LinkId) (k : CursorKind) (p : Cursor) : (s.setCursor n k p).openValues = s.openValues := rfl
@[simp] theorem State.setCursor_pending (n : LinkId) (k : CursorKind) (p : Cursor) : (s.setCursor n k p).pending = s.pending := rfl
@[simp] theorem State.setCursor_unit (n : LinkId) (k : CursorKind) (p : Cursor) (m : LinkId) : (s.setCursor n k p).unit m = s.unit m := rfl
@[simp] theorem State.setCursor_line (n : LinkId) (k : CursorKind) (p : Cursor) (j : LineId) : (s.setCursor n k p).line j = s.line j := rfl
@[simp] theorem State.setCursor_ring (n : LinkId) (k : CursorKind) (p : Cursor) (r' : RingId) : (s.setCursor n k p).ring r' = s.ring r' := by cases r' <;> rfl
@[simp] theorem State.setCursor_readTag (n : LinkId) (k : CursorKind) (p : Cursor) (t' : BusNo) : (s.setCursor n k p).readTag t' = s.readTag t' := rfl
@[simp] theorem State.setCursor_writeSlot (n : LinkId) (k : CursorKind) (p : Cursor) (t' : BusNo) : (s.setCursor n k p).writeSlot t' = s.writeSlot t' := rfl
@[simp] theorem State.setCursor_pin (n : LinkId) (k : CursorKind) (p : Cursor) (m : LinkId) : (s.setCursor n k p).pin m = s.pin m := rfl

/-! ### modSegWindow -/

@[simp] theorem State.modSegWindow_partState (n : LinkId) (k : CursorKind) (f : SegWindow → SegWindow) : (s.modSegWindow n k f).partState = s.partState := rfl
@[simp] theorem State.modSegWindow_haltCause (n : LinkId) (k : CursorKind) (f : SegWindow → SegWindow) : (s.modSegWindow n k f).haltCause = s.haltCause := rfl
@[simp] theorem State.modSegWindow_startAddr (n : LinkId) (k : CursorKind) (f : SegWindow → SegWindow) : (s.modSegWindow n k f).startAddr = s.startAddr := rfl
@[simp] theorem State.modSegWindow_startRead (n : LinkId) (k : CursorKind) (f : SegWindow → SegWindow) : (s.modSegWindow n k f).startRead = s.startRead := rfl
@[simp] theorem State.modSegWindow_settleTimer (n : LinkId) (k : CursorKind) (f : SegWindow → SegWindow) : (s.modSegWindow n k f).settleTimer = s.settleTimer := rfl
@[simp] theorem State.modSegWindow_resetHeld (n : LinkId) (k : CursorKind) (f : SegWindow → SegWindow) : (s.modSegWindow n k f).resetHeld = s.resetHeld := rfl
@[simp] theorem State.modSegWindow_pins (n : LinkId) (k : CursorKind) (f : SegWindow → SegWindow) : (s.modSegWindow n k f).pins = s.pins := rfl
@[simp] theorem State.modSegWindow_links (n : LinkId) (k : CursorKind) (f : SegWindow → SegWindow) : (s.modSegWindow n k f).links = s.links := rfl
@[simp] theorem State.modSegWindow_lines (n : LinkId) (k : CursorKind) (f : SegWindow → SegWindow) : (s.modSegWindow n k f).lines = s.lines := rfl
@[simp] theorem State.modSegWindow_grantPtr (n : LinkId) (k : CursorKind) (f : SegWindow → SegWindow) : (s.modSegWindow n k f).grantPtr = s.grantPtr := rfl
@[simp] theorem State.modSegWindow_sc (n : LinkId) (k : CursorKind) (f : SegWindow → SegWindow) : (s.modSegWindow n k f).sc = s.sc := rfl
@[simp] theorem State.modSegWindow_sRings (n : LinkId) (k : CursorKind) (f : SegWindow → SegWindow) : (s.modSegWindow n k f).sRings = s.sRings := rfl
@[simp] theorem State.modSegWindow_control (n : LinkId) (k : CursorKind) (f : SegWindow → SegWindow) : (s.modSegWindow n k f).control = s.control := rfl
@[simp] theorem State.modSegWindow_errorLog (n : LinkId) (k : CursorKind) (f : SegWindow → SegWindow) : (s.modSegWindow n k f).errorLog = s.errorLog := rfl
@[simp] theorem State.modSegWindow_notices (n : LinkId) (k : CursorKind) (f : SegWindow → SegWindow) : (s.modSegWindow n k f).notices = s.notices := rfl
@[simp] theorem State.modSegWindow_readTags (n : LinkId) (k : CursorKind) (f : SegWindow → SegWindow) : (s.modSegWindow n k f).readTags = s.readTags := rfl
@[simp] theorem State.modSegWindow_writeSlots (n : LinkId) (k : CursorKind) (f : SegWindow → SegWindow) : (s.modSegWindow n k f).writeSlots = s.writeSlots := rfl
@[simp] theorem State.modSegWindow_readExhausted (n : LinkId) (k : CursorKind) (f : SegWindow → SegWindow) : (s.modSegWindow n k f).readExhausted = s.readExhausted := rfl
@[simp] theorem State.modSegWindow_writeExhausted (n : LinkId) (k : CursorKind) (f : SegWindow → SegWindow) : (s.modSegWindow n k f).writeExhausted = s.writeExhausted := rfl
@[simp] theorem State.modSegWindow_pointers (n : LinkId) (k : CursorKind) (f : SegWindow → SegWindow) : (s.modSegWindow n k f).pointers = s.pointers := rfl
@[simp] theorem State.modSegWindow_lateResponses (n : LinkId) (k : CursorKind) (f : SegWindow → SegWindow) : (s.modSegWindow n k f).lateResponses = s.lateResponses := rfl
@[simp] theorem State.modSegWindow_recordsDiscarded (n : LinkId) (k : CursorKind) (f : SegWindow → SegWindow) : (s.modSegWindow n k f).recordsDiscarded = s.recordsDiscarded := rfl
@[simp] theorem State.modSegWindow_openValues (n : LinkId) (k : CursorKind) (f : SegWindow → SegWindow) : (s.modSegWindow n k f).openValues = s.openValues := rfl
@[simp] theorem State.modSegWindow_pending (n : LinkId) (k : CursorKind) (f : SegWindow → SegWindow) : (s.modSegWindow n k f).pending = s.pending := rfl
@[simp] theorem State.modSegWindow_link (n : LinkId) (k : CursorKind) (f : SegWindow → SegWindow) (m : LinkId) : (s.modSegWindow n k f).link m = s.link m := rfl
@[simp] theorem State.modSegWindow_line (n : LinkId) (k : CursorKind) (f : SegWindow → SegWindow) (j : LineId) : (s.modSegWindow n k f).line j = s.line j := rfl
@[simp] theorem State.modSegWindow_ring (n : LinkId) (k : CursorKind) (f : SegWindow → SegWindow) (r' : RingId) : (s.modSegWindow n k f).ring r' = s.ring r' := by cases r' <;> rfl
@[simp] theorem State.modSegWindow_readTag (n : LinkId) (k : CursorKind) (f : SegWindow → SegWindow) (t' : BusNo) : (s.modSegWindow n k f).readTag t' = s.readTag t' := rfl
@[simp] theorem State.modSegWindow_writeSlot (n : LinkId) (k : CursorKind) (f : SegWindow → SegWindow) (t' : BusNo) : (s.modSegWindow n k f).writeSlot t' = s.writeSlot t' := rfl
@[simp] theorem State.modSegWindow_pin (n : LinkId) (k : CursorKind) (f : SegWindow → SegWindow) (m : LinkId) : (s.modSegWindow n k f).pin m = s.pin m := rfl

/-! ### countDiscardedRecords -/

@[simp] theorem State.countDiscardedRecords_partState (k : Nat) : (s.countDiscardedRecords k).partState = s.partState := rfl
@[simp] theorem State.countDiscardedRecords_haltCause (k : Nat) : (s.countDiscardedRecords k).haltCause = s.haltCause := rfl
@[simp] theorem State.countDiscardedRecords_startAddr (k : Nat) : (s.countDiscardedRecords k).startAddr = s.startAddr := rfl
@[simp] theorem State.countDiscardedRecords_startRead (k : Nat) : (s.countDiscardedRecords k).startRead = s.startRead := rfl
@[simp] theorem State.countDiscardedRecords_settleTimer (k : Nat) : (s.countDiscardedRecords k).settleTimer = s.settleTimer := rfl
@[simp] theorem State.countDiscardedRecords_resetHeld (k : Nat) : (s.countDiscardedRecords k).resetHeld = s.resetHeld := rfl
@[simp] theorem State.countDiscardedRecords_pins (k : Nat) : (s.countDiscardedRecords k).pins = s.pins := rfl
@[simp] theorem State.countDiscardedRecords_links (k : Nat) : (s.countDiscardedRecords k).links = s.links := rfl
@[simp] theorem State.countDiscardedRecords_units (k : Nat) : (s.countDiscardedRecords k).units = s.units := rfl
@[simp] theorem State.countDiscardedRecords_lines (k : Nat) : (s.countDiscardedRecords k).lines = s.lines := rfl
@[simp] theorem State.countDiscardedRecords_grantPtr (k : Nat) : (s.countDiscardedRecords k).grantPtr = s.grantPtr := rfl
@[simp] theorem State.countDiscardedRecords_sc (k : Nat) : (s.countDiscardedRecords k).sc = s.sc := rfl
@[simp] theorem State.countDiscardedRecords_sRings (k : Nat) : (s.countDiscardedRecords k).sRings = s.sRings := rfl
@[simp] theorem State.countDiscardedRecords_control (k : Nat) : (s.countDiscardedRecords k).control = s.control := rfl
@[simp] theorem State.countDiscardedRecords_errorLog (k : Nat) : (s.countDiscardedRecords k).errorLog = s.errorLog := rfl
@[simp] theorem State.countDiscardedRecords_notices (k : Nat) : (s.countDiscardedRecords k).notices = s.notices := rfl
@[simp] theorem State.countDiscardedRecords_readTags (k : Nat) : (s.countDiscardedRecords k).readTags = s.readTags := rfl
@[simp] theorem State.countDiscardedRecords_writeSlots (k : Nat) : (s.countDiscardedRecords k).writeSlots = s.writeSlots := rfl
@[simp] theorem State.countDiscardedRecords_readExhausted (k : Nat) : (s.countDiscardedRecords k).readExhausted = s.readExhausted := rfl
@[simp] theorem State.countDiscardedRecords_writeExhausted (k : Nat) : (s.countDiscardedRecords k).writeExhausted = s.writeExhausted := rfl
@[simp] theorem State.countDiscardedRecords_pointers (k : Nat) : (s.countDiscardedRecords k).pointers = s.pointers := rfl
@[simp] theorem State.countDiscardedRecords_lateResponses (k : Nat) : (s.countDiscardedRecords k).lateResponses = s.lateResponses := rfl
@[simp] theorem State.countDiscardedRecords_openValues (k : Nat) : (s.countDiscardedRecords k).openValues = s.openValues := rfl
@[simp] theorem State.countDiscardedRecords_pending (k : Nat) : (s.countDiscardedRecords k).pending = s.pending := rfl
@[simp] theorem State.countDiscardedRecords_link (k : Nat) (m : LinkId) : (s.countDiscardedRecords k).link m = s.link m := rfl
@[simp] theorem State.countDiscardedRecords_unit (k : Nat) (m : LinkId) : (s.countDiscardedRecords k).unit m = s.unit m := rfl
@[simp] theorem State.countDiscardedRecords_line (k : Nat) (j : LineId) : (s.countDiscardedRecords k).line j = s.line j := rfl
@[simp] theorem State.countDiscardedRecords_ring (k : Nat) (r' : RingId) : (s.countDiscardedRecords k).ring r' = s.ring r' := by cases r' <;> rfl
@[simp] theorem State.countDiscardedRecords_readTag (k : Nat) (t' : BusNo) : (s.countDiscardedRecords k).readTag t' = s.readTag t' := rfl
@[simp] theorem State.countDiscardedRecords_writeSlot (k : Nat) (t' : BusNo) : (s.countDiscardedRecords k).writeSlot t' = s.writeSlot t' := rfl
@[simp] theorem State.countDiscardedRecords_pin (k : Nat) (m : LinkId) : (s.countDiscardedRecords k).pin m = s.pin m := rfl

/-! ### setExhausted -/

@[simp] theorem State.setExhausted_partState (k : BusKind) (b : Bool) : (s.setExhausted k b).partState = s.partState := by cases k <;> rfl
@[simp] theorem State.setExhausted_haltCause (k : BusKind) (b : Bool) : (s.setExhausted k b).haltCause = s.haltCause := by cases k <;> rfl
@[simp] theorem State.setExhausted_startAddr (k : BusKind) (b : Bool) : (s.setExhausted k b).startAddr = s.startAddr := by cases k <;> rfl
@[simp] theorem State.setExhausted_startRead (k : BusKind) (b : Bool) : (s.setExhausted k b).startRead = s.startRead := by cases k <;> rfl
@[simp] theorem State.setExhausted_settleTimer (k : BusKind) (b : Bool) : (s.setExhausted k b).settleTimer = s.settleTimer := by cases k <;> rfl
@[simp] theorem State.setExhausted_resetHeld (k : BusKind) (b : Bool) : (s.setExhausted k b).resetHeld = s.resetHeld := by cases k <;> rfl
@[simp] theorem State.setExhausted_pins (k : BusKind) (b : Bool) : (s.setExhausted k b).pins = s.pins := by cases k <;> rfl
@[simp] theorem State.setExhausted_links (k : BusKind) (b : Bool) : (s.setExhausted k b).links = s.links := by cases k <;> rfl
@[simp] theorem State.setExhausted_units (k : BusKind) (b : Bool) : (s.setExhausted k b).units = s.units := by cases k <;> rfl
@[simp] theorem State.setExhausted_lines (k : BusKind) (b : Bool) : (s.setExhausted k b).lines = s.lines := by cases k <;> rfl
@[simp] theorem State.setExhausted_grantPtr (k : BusKind) (b : Bool) : (s.setExhausted k b).grantPtr = s.grantPtr := by cases k <;> rfl
@[simp] theorem State.setExhausted_sc (k : BusKind) (b : Bool) : (s.setExhausted k b).sc = s.sc := by cases k <;> rfl
@[simp] theorem State.setExhausted_sRings (k : BusKind) (b : Bool) : (s.setExhausted k b).sRings = s.sRings := by cases k <;> rfl
@[simp] theorem State.setExhausted_control (k : BusKind) (b : Bool) : (s.setExhausted k b).control = s.control := by cases k <;> rfl
@[simp] theorem State.setExhausted_errorLog (k : BusKind) (b : Bool) : (s.setExhausted k b).errorLog = s.errorLog := by cases k <;> rfl
@[simp] theorem State.setExhausted_notices (k : BusKind) (b : Bool) : (s.setExhausted k b).notices = s.notices := by cases k <;> rfl
@[simp] theorem State.setExhausted_readTags (k : BusKind) (b : Bool) : (s.setExhausted k b).readTags = s.readTags := by cases k <;> rfl
@[simp] theorem State.setExhausted_writeSlots (k : BusKind) (b : Bool) : (s.setExhausted k b).writeSlots = s.writeSlots := by cases k <;> rfl
@[simp] theorem State.setExhausted_pointers (k : BusKind) (b : Bool) : (s.setExhausted k b).pointers = s.pointers := by cases k <;> rfl
@[simp] theorem State.setExhausted_lateResponses (k : BusKind) (b : Bool) : (s.setExhausted k b).lateResponses = s.lateResponses := by cases k <;> rfl
@[simp] theorem State.setExhausted_recordsDiscarded (k : BusKind) (b : Bool) : (s.setExhausted k b).recordsDiscarded = s.recordsDiscarded := by cases k <;> rfl
@[simp] theorem State.setExhausted_openValues (k : BusKind) (b : Bool) : (s.setExhausted k b).openValues = s.openValues := by cases k <;> rfl
@[simp] theorem State.setExhausted_pending (k : BusKind) (b : Bool) : (s.setExhausted k b).pending = s.pending := by cases k <;> rfl
@[simp] theorem State.setExhausted_link (k : BusKind) (b : Bool) (m : LinkId) : (s.setExhausted k b).link m = s.link m := by cases k <;> rfl
@[simp] theorem State.setExhausted_unit (k : BusKind) (b : Bool) (m : LinkId) : (s.setExhausted k b).unit m = s.unit m := by cases k <;> rfl
@[simp] theorem State.setExhausted_line (k : BusKind) (b : Bool) (j : LineId) : (s.setExhausted k b).line j = s.line j := by cases k <;> rfl
@[simp] theorem State.setExhausted_ring (k : BusKind) (b : Bool) (r' : RingId) : (s.setExhausted k b).ring r' = s.ring r' := by cases r' <;> simp [State.ring]
@[simp] theorem State.setExhausted_readTag (k : BusKind) (b : Bool) (t' : BusNo) : (s.setExhausted k b).readTag t' = s.readTag t' := by cases k <;> rfl
@[simp] theorem State.setExhausted_writeSlot (k : BusKind) (b : Bool) (t' : BusNo) : (s.setExhausted k b).writeSlot t' = s.writeSlot t' := by cases k <;> rfl
@[simp] theorem State.setExhausted_pin (k : BusKind) (b : Bool) (m : LinkId) : (s.setExhausted k b).pin m = s.pin m := by cases k <;> rfl

/-! ### logEvent -/

@[simp] theorem State.logEvent_partState (e : ErrorEvent) : (s.logEvent e).partState = s.partState := by unfold State.logEvent; split <;> rfl
@[simp] theorem State.logEvent_haltCause (e : ErrorEvent) : (s.logEvent e).haltCause = s.haltCause := by unfold State.logEvent; split <;> rfl
@[simp] theorem State.logEvent_startAddr (e : ErrorEvent) : (s.logEvent e).startAddr = s.startAddr := by unfold State.logEvent; split <;> rfl
@[simp] theorem State.logEvent_startRead (e : ErrorEvent) : (s.logEvent e).startRead = s.startRead := by unfold State.logEvent; split <;> rfl
@[simp] theorem State.logEvent_settleTimer (e : ErrorEvent) : (s.logEvent e).settleTimer = s.settleTimer := by unfold State.logEvent; split <;> rfl
@[simp] theorem State.logEvent_resetHeld (e : ErrorEvent) : (s.logEvent e).resetHeld = s.resetHeld := by unfold State.logEvent; split <;> rfl
@[simp] theorem State.logEvent_pins (e : ErrorEvent) : (s.logEvent e).pins = s.pins := by unfold State.logEvent; split <;> rfl
@[simp] theorem State.logEvent_links (e : ErrorEvent) : (s.logEvent e).links = s.links := by unfold State.logEvent; split <;> rfl
@[simp] theorem State.logEvent_units (e : ErrorEvent) : (s.logEvent e).units = s.units := by unfold State.logEvent; split <;> rfl
@[simp] theorem State.logEvent_lines (e : ErrorEvent) : (s.logEvent e).lines = s.lines := by unfold State.logEvent; split <;> rfl
@[simp] theorem State.logEvent_grantPtr (e : ErrorEvent) : (s.logEvent e).grantPtr = s.grantPtr := by unfold State.logEvent; split <;> rfl
@[simp] theorem State.logEvent_sc (e : ErrorEvent) : (s.logEvent e).sc = s.sc := by unfold State.logEvent; split <;> rfl
@[simp] theorem State.logEvent_sRings (e : ErrorEvent) : (s.logEvent e).sRings = s.sRings := by unfold State.logEvent; split <;> rfl
@[simp] theorem State.logEvent_control (e : ErrorEvent) : (s.logEvent e).control = s.control := by unfold State.logEvent; split <;> rfl
@[simp] theorem State.logEvent_readTags (e : ErrorEvent) : (s.logEvent e).readTags = s.readTags := by unfold State.logEvent; split <;> rfl
@[simp] theorem State.logEvent_writeSlots (e : ErrorEvent) : (s.logEvent e).writeSlots = s.writeSlots := by unfold State.logEvent; split <;> rfl
@[simp] theorem State.logEvent_readExhausted (e : ErrorEvent) : (s.logEvent e).readExhausted = s.readExhausted := by unfold State.logEvent; split <;> rfl
@[simp] theorem State.logEvent_writeExhausted (e : ErrorEvent) : (s.logEvent e).writeExhausted = s.writeExhausted := by unfold State.logEvent; split <;> rfl
@[simp] theorem State.logEvent_pointers (e : ErrorEvent) : (s.logEvent e).pointers = s.pointers := by unfold State.logEvent; split <;> rfl
@[simp] theorem State.logEvent_lateResponses (e : ErrorEvent) : (s.logEvent e).lateResponses = s.lateResponses := by unfold State.logEvent; split <;> rfl
@[simp] theorem State.logEvent_recordsDiscarded (e : ErrorEvent) : (s.logEvent e).recordsDiscarded = s.recordsDiscarded := by unfold State.logEvent; split <;> rfl
@[simp] theorem State.logEvent_openValues (e : ErrorEvent) : (s.logEvent e).openValues = s.openValues := by unfold State.logEvent; split <;> rfl
@[simp] theorem State.logEvent_pending (e : ErrorEvent) : (s.logEvent e).pending = s.pending := by unfold State.logEvent; split <;> rfl
@[simp] theorem State.logEvent_link (e : ErrorEvent) (m : LinkId) : (s.logEvent e).link m = s.link m := by simp [State.link]
@[simp] theorem State.logEvent_unit (e : ErrorEvent) (m : LinkId) : (s.logEvent e).unit m = s.unit m := by simp [State.unit]
@[simp] theorem State.logEvent_line (e : ErrorEvent) (j : LineId) : (s.logEvent e).line j = s.line j := by simp [State.line]
@[simp] theorem State.logEvent_ring (e : ErrorEvent) (r' : RingId) : (s.logEvent e).ring r' = s.ring r' := by cases r' <;> simp [State.ring]
@[simp] theorem State.logEvent_readTag (e : ErrorEvent) (t' : BusNo) : (s.logEvent e).readTag t' = s.readTag t' := by simp [State.readTag]
@[simp] theorem State.logEvent_writeSlot (e : ErrorEvent) (t' : BusNo) : (s.logEvent e).writeSlot t' = s.writeSlot t' := by simp [State.writeSlot]
@[simp] theorem State.logEvent_pin (e : ErrorEvent) (m : LinkId) : (s.logEvent e).pin m = s.pin m := by simp [State.pin]

/-! ### endCommand -/

/-- The end of a command moves the control processor, which offers its RESULT, and nothing else (R166). -/
theorem State.endCommand_frame (o : Code) : s.endCommand o = { s with control := (s.endCommand o).control } := by
  unfold State.endCommand
  split
  · split <;> rfl
  · rfl

@[simp] theorem State.endCommand_partState (o : Code) : (s.endCommand o).partState = s.partState :=
  (congrArg State.partState (s.endCommand_frame o) :)
@[simp] theorem State.endCommand_haltCause (o : Code) : (s.endCommand o).haltCause = s.haltCause :=
  (congrArg State.haltCause (s.endCommand_frame o) :)
@[simp] theorem State.endCommand_startAddr (o : Code) : (s.endCommand o).startAddr = s.startAddr :=
  (congrArg State.startAddr (s.endCommand_frame o) :)
@[simp] theorem State.endCommand_startRead (o : Code) : (s.endCommand o).startRead = s.startRead :=
  (congrArg State.startRead (s.endCommand_frame o) :)
@[simp] theorem State.endCommand_settleTimer (o : Code) : (s.endCommand o).settleTimer = s.settleTimer :=
  (congrArg State.settleTimer (s.endCommand_frame o) :)
@[simp] theorem State.endCommand_resetHeld (o : Code) : (s.endCommand o).resetHeld = s.resetHeld :=
  (congrArg State.resetHeld (s.endCommand_frame o) :)
@[simp] theorem State.endCommand_pins (o : Code) : (s.endCommand o).pins = s.pins :=
  (congrArg State.pins (s.endCommand_frame o) :)
@[simp] theorem State.endCommand_links (o : Code) : (s.endCommand o).links = s.links :=
  (congrArg State.links (s.endCommand_frame o) :)
@[simp] theorem State.endCommand_units (o : Code) : (s.endCommand o).units = s.units :=
  (congrArg State.units (s.endCommand_frame o) :)
@[simp] theorem State.endCommand_lines (o : Code) : (s.endCommand o).lines = s.lines :=
  (congrArg State.lines (s.endCommand_frame o) :)
@[simp] theorem State.endCommand_grantPtr (o : Code) : (s.endCommand o).grantPtr = s.grantPtr :=
  (congrArg State.grantPtr (s.endCommand_frame o) :)
@[simp] theorem State.endCommand_sc (o : Code) : (s.endCommand o).sc = s.sc :=
  (congrArg State.sc (s.endCommand_frame o) :)
@[simp] theorem State.endCommand_sRings (o : Code) : (s.endCommand o).sRings = s.sRings :=
  (congrArg State.sRings (s.endCommand_frame o) :)
@[simp] theorem State.endCommand_errorLog (o : Code) : (s.endCommand o).errorLog = s.errorLog :=
  (congrArg State.errorLog (s.endCommand_frame o) :)
@[simp] theorem State.endCommand_notices (o : Code) : (s.endCommand o).notices = s.notices :=
  (congrArg State.notices (s.endCommand_frame o) :)
@[simp] theorem State.endCommand_readTags (o : Code) : (s.endCommand o).readTags = s.readTags :=
  (congrArg State.readTags (s.endCommand_frame o) :)
@[simp] theorem State.endCommand_writeSlots (o : Code) : (s.endCommand o).writeSlots = s.writeSlots :=
  (congrArg State.writeSlots (s.endCommand_frame o) :)
@[simp] theorem State.endCommand_readExhausted (o : Code) : (s.endCommand o).readExhausted = s.readExhausted :=
  (congrArg State.readExhausted (s.endCommand_frame o) :)
@[simp] theorem State.endCommand_writeExhausted (o : Code) : (s.endCommand o).writeExhausted = s.writeExhausted :=
  (congrArg State.writeExhausted (s.endCommand_frame o) :)
@[simp] theorem State.endCommand_pointers (o : Code) : (s.endCommand o).pointers = s.pointers :=
  (congrArg State.pointers (s.endCommand_frame o) :)
@[simp] theorem State.endCommand_lateResponses (o : Code) : (s.endCommand o).lateResponses = s.lateResponses :=
  (congrArg State.lateResponses (s.endCommand_frame o) :)
@[simp] theorem State.endCommand_recordsDiscarded (o : Code) : (s.endCommand o).recordsDiscarded = s.recordsDiscarded :=
  (congrArg State.recordsDiscarded (s.endCommand_frame o) :)
@[simp] theorem State.endCommand_openValues (o : Code) : (s.endCommand o).openValues = s.openValues :=
  (congrArg State.openValues (s.endCommand_frame o) :)
@[simp] theorem State.endCommand_pending (o : Code) : (s.endCommand o).pending = s.pending :=
  (congrArg State.pending (s.endCommand_frame o) :)
@[simp] theorem State.endCommand_link (o : Code) (m : LinkId) : (s.endCommand o).link m = s.link m := by simp [State.link]
@[simp] theorem State.endCommand_unit (o : Code) (m : LinkId) : (s.endCommand o).unit m = s.unit m := by simp [State.unit]
@[simp] theorem State.endCommand_line (o : Code) (j : LineId) : (s.endCommand o).line j = s.line j := by simp [State.line]
@[simp] theorem State.endCommand_ring (o : Code) (r' : RingId) : (s.endCommand o).ring r' = s.ring r' := by cases r' <;> simp [State.ring]
@[simp] theorem State.endCommand_readTag (o : Code) (t' : BusNo) : (s.endCommand o).readTag t' = s.readTag t' := by simp [State.readTag]
@[simp] theorem State.endCommand_writeSlot (o : Code) (t' : BusNo) : (s.endCommand o).writeSlot t' = s.writeSlot t' := by simp [State.writeSlot]
@[simp] theorem State.endCommand_pin (o : Code) (m : LinkId) : (s.endCommand o).pin m = s.pin m := by simp [State.pin]

/-! ### countLate -/

@[simp] theorem State.countLate_partState : (s.countLate).partState = s.partState := rfl
@[simp] theorem State.countLate_haltCause : (s.countLate).haltCause = s.haltCause := rfl
@[simp] theorem State.countLate_startAddr : (s.countLate).startAddr = s.startAddr := rfl
@[simp] theorem State.countLate_startRead : (s.countLate).startRead = s.startRead := rfl
@[simp] theorem State.countLate_settleTimer : (s.countLate).settleTimer = s.settleTimer := rfl
@[simp] theorem State.countLate_resetHeld : (s.countLate).resetHeld = s.resetHeld := rfl
@[simp] theorem State.countLate_pins : (s.countLate).pins = s.pins := rfl
@[simp] theorem State.countLate_links : (s.countLate).links = s.links := rfl
@[simp] theorem State.countLate_units : (s.countLate).units = s.units := rfl
@[simp] theorem State.countLate_lines : (s.countLate).lines = s.lines := rfl
@[simp] theorem State.countLate_grantPtr : (s.countLate).grantPtr = s.grantPtr := rfl
@[simp] theorem State.countLate_sc : (s.countLate).sc = s.sc := rfl
@[simp] theorem State.countLate_sRings : (s.countLate).sRings = s.sRings := rfl
@[simp] theorem State.countLate_control : (s.countLate).control = s.control := rfl
@[simp] theorem State.countLate_errorLog : (s.countLate).errorLog = s.errorLog := rfl
@[simp] theorem State.countLate_notices : (s.countLate).notices = s.notices := rfl
@[simp] theorem State.countLate_readTags : (s.countLate).readTags = s.readTags := rfl
@[simp] theorem State.countLate_writeSlots : (s.countLate).writeSlots = s.writeSlots := rfl
@[simp] theorem State.countLate_readExhausted : (s.countLate).readExhausted = s.readExhausted := rfl
@[simp] theorem State.countLate_writeExhausted : (s.countLate).writeExhausted = s.writeExhausted := rfl
@[simp] theorem State.countLate_pointers : (s.countLate).pointers = s.pointers := rfl
@[simp] theorem State.countLate_recordsDiscarded : (s.countLate).recordsDiscarded = s.recordsDiscarded := rfl
@[simp] theorem State.countLate_openValues : (s.countLate).openValues = s.openValues := rfl
@[simp] theorem State.countLate_pending : (s.countLate).pending = s.pending := rfl
@[simp] theorem State.countLate_link (m : LinkId) : (s.countLate).link m = s.link m := rfl
@[simp] theorem State.countLate_unit (m : LinkId) : (s.countLate).unit m = s.unit m := rfl
@[simp] theorem State.countLate_line (j : LineId) : (s.countLate).line j = s.line j := rfl
@[simp] theorem State.countLate_ring (r' : RingId) : (s.countLate).ring r' = s.ring r' := by cases r' <;> rfl
@[simp] theorem State.countLate_readTag (t' : BusNo) : (s.countLate).readTag t' = s.readTag t' := rfl
@[simp] theorem State.countLate_writeSlot (t' : BusNo) : (s.countLate).writeSlot t' = s.writeSlot t' := rfl
@[simp] theorem State.countLate_pin (m : LinkId) : (s.countLate).pin m = s.pin m := rfl

/-! ### withPending -/

@[simp] theorem State.withPending_partState (q : List Instr) : (s.withPending q).partState = s.partState := rfl
@[simp] theorem State.withPending_haltCause (q : List Instr) : (s.withPending q).haltCause = s.haltCause := rfl
@[simp] theorem State.withPending_startAddr (q : List Instr) : (s.withPending q).startAddr = s.startAddr := rfl
@[simp] theorem State.withPending_startRead (q : List Instr) : (s.withPending q).startRead = s.startRead := rfl
@[simp] theorem State.withPending_settleTimer (q : List Instr) : (s.withPending q).settleTimer = s.settleTimer := rfl
@[simp] theorem State.withPending_resetHeld (q : List Instr) : (s.withPending q).resetHeld = s.resetHeld := rfl
@[simp] theorem State.withPending_pins (q : List Instr) : (s.withPending q).pins = s.pins := rfl
@[simp] theorem State.withPending_links (q : List Instr) : (s.withPending q).links = s.links := rfl
@[simp] theorem State.withPending_units (q : List Instr) : (s.withPending q).units = s.units := rfl
@[simp] theorem State.withPending_lines (q : List Instr) : (s.withPending q).lines = s.lines := rfl
@[simp] theorem State.withPending_grantPtr (q : List Instr) : (s.withPending q).grantPtr = s.grantPtr := rfl
@[simp] theorem State.withPending_sc (q : List Instr) : (s.withPending q).sc = s.sc := rfl
@[simp] theorem State.withPending_sRings (q : List Instr) : (s.withPending q).sRings = s.sRings := rfl
@[simp] theorem State.withPending_control (q : List Instr) : (s.withPending q).control = s.control := rfl
@[simp] theorem State.withPending_errorLog (q : List Instr) : (s.withPending q).errorLog = s.errorLog := rfl
@[simp] theorem State.withPending_notices (q : List Instr) : (s.withPending q).notices = s.notices := rfl
@[simp] theorem State.withPending_readTags (q : List Instr) : (s.withPending q).readTags = s.readTags := rfl
@[simp] theorem State.withPending_writeSlots (q : List Instr) : (s.withPending q).writeSlots = s.writeSlots := rfl
@[simp] theorem State.withPending_readExhausted (q : List Instr) : (s.withPending q).readExhausted = s.readExhausted := rfl
@[simp] theorem State.withPending_writeExhausted (q : List Instr) : (s.withPending q).writeExhausted = s.writeExhausted := rfl
@[simp] theorem State.withPending_pointers (q : List Instr) : (s.withPending q).pointers = s.pointers := rfl
@[simp] theorem State.withPending_lateResponses (q : List Instr) : (s.withPending q).lateResponses = s.lateResponses := rfl
@[simp] theorem State.withPending_recordsDiscarded (q : List Instr) : (s.withPending q).recordsDiscarded = s.recordsDiscarded := rfl
@[simp] theorem State.withPending_openValues (q : List Instr) : (s.withPending q).openValues = s.openValues := rfl
@[simp] theorem State.withPending_link (q : List Instr) (m : LinkId) : (s.withPending q).link m = s.link m := rfl
@[simp] theorem State.withPending_unit (q : List Instr) (m : LinkId) : (s.withPending q).unit m = s.unit m := rfl
@[simp] theorem State.withPending_line (q : List Instr) (j : LineId) : (s.withPending q).line j = s.line j := rfl
@[simp] theorem State.withPending_ring (q : List Instr) (r' : RingId) : (s.withPending q).ring r' = s.ring r' := by cases r' <;> rfl
@[simp] theorem State.withPending_readTag (q : List Instr) (t' : BusNo) : (s.withPending q).readTag t' = s.readTag t' := rfl
@[simp] theorem State.withPending_writeSlot (q : List Instr) (t' : BusNo) : (s.withPending q).writeSlot t' = s.writeSlot t' := rfl
@[simp] theorem State.withPending_pin (q : List Instr) (m : LinkId) : (s.withPending q).pin m = s.pin m := rfl

/-! ### The item updated -/

@[simp] theorem State.modLink_link_self (n : LinkId) (f : Link → Link) : (s.modLink n f).link n = f (s.link n) := by
  simp [State.modLink, State.link]

theorem State.modLink_link_other (n m : LinkId) (f : Link → Link) (h : m ≠ n) :
    (s.modLink n f).link m = s.link m := by
  simp [State.modLink, State.link, Ne.symm (Fin.val_ne_of_ne h)]

@[simp] theorem State.modUnit_unit_self (n : LinkId) (f : RingUnit → RingUnit) :
    (s.modUnit n f).unit n = f (s.unit n) := by
  simp [State.modUnit, State.unit]

theorem State.modUnit_unit_other (n m : LinkId) (f : RingUnit → RingUnit) (h : m ≠ n) :
    (s.modUnit n f).unit m = s.unit m := by
  simp [State.modUnit, State.unit, Ne.symm (Fin.val_ne_of_ne h)]

@[simp] theorem State.modLine_line_self (i : LineId) (f : Line → Line) : (s.modLine i f).line i = f (s.line i) := by
  simp [State.modLine, State.line]

theorem State.modLine_line_other (i j : LineId) (f : Line → Line) (h : j ≠ i) :
    (s.modLine i f).line j = s.line j := by
  simp [State.modLine, State.line, Ne.symm (Fin.val_ne_of_ne h)]

@[simp] theorem State.modPin_pin_self (n : LinkId) (f : PinLevels → PinLevels) :
    (s.modPin n f).pin n = f (s.pin n) := by
  simp [State.modPin, State.pin]

@[simp] theorem State.modRing_ring_self (r : RingId) (f : StatusRing → StatusRing) :
    (s.modRing r f).ring r = f (s.ring r) := by
  cases r <;> simp [State.modRing, State.ring]

theorem State.modRing_ring_other (r r' : RingId) (f : StatusRing → StatusRing) (h : r' ≠ r) :
    (s.modRing r f).ring r' = s.ring r' := by
  cases r with
  | sc => cases r' with
    | sc => exact absurd rfl h
    | s m => rfl
  | s n => cases r' with
    | sc => rfl
    | s m =>
      have : (n : Nat) ≠ m := fun e => h (by rw [Fin.ext e])
      simp [State.modRing, State.ring, this]

@[simp] theorem State.modControl_control (f : Control → Control) : (s.modControl f).control = f s.control := rfl

@[simp] theorem State.modIdent_ident_self (k : BusKind) (t : BusNo) (f : Ident → Ident) :
    (s.modIdent k t f).ident k t = f (s.ident k t) := by
  cases k <;> simp [State.modIdent, State.ident, State.readTag, State.writeSlot]

theorem State.modIdent_ident_other (k : BusKind) (t u : BusNo) (f : Ident → Ident) (h : u ≠ t) :
    (s.modIdent k t f).ident k u = s.ident k u := by
  cases k <;> simp [State.modIdent, State.ident, State.readTag, State.writeSlot,
    Ne.symm (Fin.val_ne_of_ne h)]

@[simp] theorem State.withPending_pending (q : List Instr) : (s.withPending q).pending = q := rfl

@[simp] theorem State.countLate_lateResponses : s.countLate.lateResponses = addCounter s.lateResponses 1 := rfl

end Sys2Proof.Machine
end

