-- ==== Sys2Proof/Laws/Frame.lean ====
section
/-! SUPPORT. What an event inside a link leaves alone: for each operation of the link engines and of the commands on
links, one lemma that it stays within State.OnlyLinks. Each is an equivalence, so that simp peels operations off a
goal. -/

namespace Sys2Proof.Machine

variable {s t : State}

/-- OnlyLinks, field by field. -/
theorem State.onlyLinks_iff : s.OnlyLinks t ↔
    t.partState = s.partState ∧ t.haltCause = s.haltCause ∧ t.startAddr = s.startAddr ∧ t.startRead = s.startRead ∧
    t.settleTimer = s.settleTimer ∧ t.resetHeld = s.resetHeld ∧ t.pins = s.pins ∧ t.grantPtr = s.grantPtr ∧
    t.sc = s.sc ∧ t.sRings = s.sRings ∧ t.readTags = s.readTags ∧ t.writeSlots = s.writeSlots ∧
    t.readExhausted = s.readExhausted ∧ t.writeExhausted = s.writeExhausted ∧ t.pointers = s.pointers ∧
    t.lateResponses = s.lateResponses ∧ t.openValues = s.openValues ∧ t.pending = s.pending := by
  obtain ⟨⟩ := s
  obtain ⟨⟩ := t
  simp [State.OnlyLinks]

theorem State.onlyLinks_refl (s : State) : s.OnlyLinks s := rfl

theorem State.OnlyLinks.trans {u : State} (h : s.OnlyLinks t) (k : t.OnlyLinks u) : s.OnlyLinks u := by
  rw [State.onlyLinks_iff] at *
  obtain ⟨h1, h2, h3, h4, h5, h6, h7, h8, h9, h10, h11, h12, h13, h14, h15, h16, h17, h18⟩ := h
  obtain ⟨k1, k2, k3, k4, k5, k6, k7, k8, k9, k10, k11, k12, k13, k14, k15, k16, k17, k18⟩ := k
  exact ⟨k1.trans h1, k2.trans h2, k3.trans h3, k4.trans h4, k5.trans h5, k6.trans h6, k7.trans h7, k8.trans h8,
    k9.trans h9, k10.trans h10, k11.trans h11, k12.trans h12, k13.trans h13, k14.trans h14, k15.trans h15,
    k16.trans h16, k17.trans h17, k18.trans h18⟩

/-! ### The basic updates -/

@[simp] theorem State.onlyLinks_modLink (n : LinkId) (f : Link → Link) :
    s.OnlyLinks (t.modLink n f) ↔ s.OnlyLinks t := by simp [State.onlyLinks_iff]

@[simp] theorem State.onlyLinks_modUnit (n : LinkId) (f : RingUnit → RingUnit) :
    s.OnlyLinks (t.modUnit n f) ↔ s.OnlyLinks t := by simp [State.onlyLinks_iff]

@[simp] theorem State.onlyLinks_modLine (i : LineId) (f : Line → Line) :
    s.OnlyLinks (t.modLine i f) ↔ s.OnlyLinks t := by simp [State.onlyLinks_iff]

@[simp] theorem State.onlyLinks_modControl (f : Control → Control) :
    s.OnlyLinks (t.modControl f) ↔ s.OnlyLinks t := by simp [State.onlyLinks_iff]

@[simp] theorem State.onlyLinks_setCursor (n : LinkId) (k : CursorKind) (p : Cursor) :
    s.OnlyLinks (t.setCursor n k p) ↔ s.OnlyLinks t := by simp [State.setCursor]

@[simp] theorem State.onlyLinks_modSegWindow (n : LinkId) (k : CursorKind) (f : SegWindow → SegWindow) :
    s.OnlyLinks (t.modSegWindow n k f) ↔ s.OnlyLinks t := by simp [State.modSegWindow]

@[simp] theorem State.onlyLinks_countDiscardedRecords (k : Nat) :
    s.OnlyLinks (t.countDiscardedRecords k) ↔ s.OnlyLinks t := by simp [State.onlyLinks_iff]

@[simp] theorem State.onlyLinks_logEvent (e : ErrorEvent) : s.OnlyLinks (t.logEvent e) ↔ s.OnlyLinks t := by
  simp [State.onlyLinks_iff]

@[simp] theorem State.onlyLinks_endCommand (o : Code) : s.OnlyLinks (t.endCommand o) ↔ s.OnlyLinks t := by
  simp [State.onlyLinks_iff]

/-- A fold of operations that each leave P as it was. -/
theorem State.foldl_iff {α : Type} {P : State → Prop} (f : State → α → State) (hf : ∀ u a, P (f u a) ↔ P u)
    (l : List α) : ∀ t, P (l.foldl f t) ↔ P t := by
  induction l with
  | nil => intro t; rfl
  | cons a l ih => intro t; rw [List.foldl_cons, ih, hf]

theorem State.forEach_iff {α : Type} {P : State → Prop} (f : State → α → State) (hf : ∀ u a, P (f u a) ↔ P u)
    (l : List α) (t : State) : P (forEach f l t) ↔ P t := State.foldl_iff f hf l t

/-- Acts taken one after the other. -/
theorem State.iterate_iff {P : State → Prop} (f : State → Option State)
    (hf : ∀ u v, f u = some v → (P v ↔ P u)) (k : Nat) : ∀ t, P (iterate f k t) ↔ P t := by
  induction k with
  | zero => intro t; rfl
  | succ k ih =>
    intro t
    rw [iterate]
    cases h : f t with
    | none => rfl
    | some v => exact (ih v).trans (hf t v h)

/-! ### Lines -/

@[simp] theorem State.onlyLinks_freeLine (i : LineId) : s.OnlyLinks (t.freeLine i) ↔ s.OnlyLinks t := by
  unfold State.freeLine; split <;> simp

@[simp] theorem State.onlyLinks_countDiscard (n : LinkId) : s.OnlyLinks (t.countDiscard n) ↔ s.OnlyLinks t := by
  simp [State.countDiscard]

@[simp] theorem State.onlyLinks_freeCounted (n : LinkId) (i : LineId) :
    s.OnlyLinks (t.freeCounted n i) ↔ s.OnlyLinks t := by simp [State.freeCounted]

@[simp] theorem State.onlyLinks_discardLine (n : LinkId) (i : LineId) :
    s.OnlyLinks (State.discardLine n t i) ↔ s.OnlyLinks t := by
  unfold State.discardLine; dsimp only; repeat' split
  all_goals simp

@[simp] theorem State.onlyLinks_discardLines (n : LinkId) (w : LineState → Bool) :
    s.OnlyLinks (t.discardLines n w) ↔ s.OnlyLinks t := by
  unfold State.discardLines; exact State.forEach_iff _ (fun u a => by simp) _ _

@[simp] theorem State.onlyLinks_sealEarly (n : LinkId) : s.OnlyLinks (t.sealEarly n) ↔ s.OnlyLinks t := by
  unfold State.sealEarly; repeat' split
  all_goals simp

@[simp] theorem State.onlyLinks_cutLine (n : LinkId) (k : CursorKind) (i : LineId) :
    s.OnlyLinks (t.cutLine n k i) ↔ s.OnlyLinks t := by
  unfold State.cutLine; repeat' split
  all_goals simp

/-! ### Leaving RUNNING -/

@[simp] theorem State.onlyLinks_countSent (n : LinkId) : s.OnlyLinks (t.countSent n) ↔ s.OnlyLinks t := by
  unfold State.countSent; dsimp only; repeat' split
  all_goals simp

@[simp] theorem State.onlyLinks_stopByte (n : LinkId) : s.OnlyLinks (t.stopByte n) ↔ s.OnlyLinks t := by
  unfold State.stopByte; split <;> simp

@[simp] theorem State.onlyLinks_failByte (n : LinkId) : s.OnlyLinks (t.failByte n) ↔ s.OnlyLinks t := by
  unfold State.failByte; split <;> simp

@[simp] theorem State.onlyLinks_giveUp (n : LinkId) : s.OnlyLinks (t.giveUp n) ↔ s.OnlyLinks t := by
  simp [State.giveUp]

@[simp] theorem State.onlyLinks_settleLines (n : LinkId) (h : Settling) :
    s.OnlyLinks (t.settleLines n h) ↔ s.OnlyLinks t := by
  unfold State.settleLines; split <;> simp

@[simp] theorem State.onlyLinks_enterHolding (n : LinkId) (c : HoldCause) (x : Option Nat) (h : Settling) :
    s.OnlyLinks (t.enterHolding n c x h) ↔ s.OnlyLinks t := by simp [State.enterHolding]

@[simp] theorem State.onlyLinks_failCopy (n : LinkId) (k : Nat) (o : Code) (d : Detail) (b : Option Nat) :
    s.OnlyLinks (t.failCopy n k o d b) ↔ s.OnlyLinks t := by simp [State.failCopy]

@[simp] theorem State.onlyLinks_failAndHold (n : LinkId) (k : Nat) (o : Code) (d : Detail) (b : Option Nat)
    (h : Settling) : s.OnlyLinks (t.failAndHold n k o d b h) ↔ s.OnlyLinks t := by simp [State.failAndHold]

@[simp] theorem State.onlyLinks_cancelCurrent (n : LinkId) : s.OnlyLinks (t.cancelCurrent n) ↔ s.OnlyLinks t := by
  simp [State.cancelCurrent]

@[simp] theorem State.onlyLinks_holdStatusLost (n : LinkId) : s.OnlyLinks (t.holdStatusLost n) ↔ s.OnlyLinks t := by
  simp [State.holdStatusLost]

@[simp] theorem State.onlyLinks_fixBytes (n : LinkId) : s.OnlyLinks (State.fixBytes n t) ↔ s.OnlyLinks t := by
  simp [State.fixBytes]

@[simp] theorem State.onlyLinks_finishCurrent (n : LinkId) (o : Code) (b : Nat) :
    s.OnlyLinks (t.finishCurrent n o b) ↔ s.OnlyLinks t := by simp [State.finishCurrent]

@[simp] theorem State.onlyLinks_enterQuiescing (n : LinkId) (c : Cancellation) :
    s.OnlyLinks (t.enterQuiescing n c) ↔ s.OnlyLinks t := by
  unfold State.enterQuiescing; dsimp only; split <;> simp

@[simp] theorem State.onlyLinks_enterStopped (n : LinkId) : s.OnlyLinks (t.enterStopped n) ↔ s.OnlyLinks t := by
  simp [State.enterStopped]

/-! ### Offers and the window -/

@[simp] theorem State.onlyLinks_retireFront (n : LinkId) : s.OnlyLinks (t.retireFront n) ↔ s.OnlyLinks t := by
  simp [State.retireFront]

@[simp] theorem State.onlyLinks_answerDiscarded (n : LinkId) (p : Purpose) :
    s.OnlyLinks (t.answerDiscarded n p) ↔ s.OnlyLinks t := by
  unfold State.answerDiscarded; dsimp only; repeat' split
  all_goals simp

@[simp] theorem State.onlyLinks_putOffer (n : LinkId) (o : Offer) :
    s.OnlyLinks (t.putOffer n o) ↔ s.OnlyLinks t := by
  unfold State.putOffer; dsimp only; split_ifs <;> simp

@[simp] theorem State.onlyLinks_offerAttention (n : LinkId) : s.OnlyLinks (t.offerAttention n) ↔ s.OnlyLinks t := by
  unfold State.offerAttention; split <;> simp

@[simp] theorem State.onlyLinks_retire (n : LinkId) : s.OnlyLinks (t.retire n) ↔ s.OnlyLinks t := by
  unfold State.retire; dsimp only; repeat' split
  all_goals simp

@[simp] theorem State.onlyLinks_answerAccepted (n : LinkId) (p : Purpose) :
    s.OnlyLinks (t.answerAccepted n p) ↔ s.OnlyLinks t := by
  unfold State.answerAccepted; dsimp only; repeat' split
  all_goals simp

@[simp] theorem State.onlyLinks_retireUnseen (n : LinkId) (k : Nat) :
    s.OnlyLinks (t.retireUnseen n k) ↔ s.OnlyLinks t := by simp [State.retireUnseen]

@[simp] theorem State.onlyLinks_endFlush (n : LinkId) : s.OnlyLinks (t.endFlush n) ↔ s.OnlyLinks t := by
  unfold State.endFlush; dsimp only; split <;> simp

@[simp] theorem State.onlyLinks_endQuiescing (n : LinkId) : s.OnlyLinks (t.endQuiescing n) ↔ s.OnlyLinks t := by
  unfold State.endQuiescing; repeat' split
  all_goals simp

theorem State.onlyLinks_holdingStep {n : LinkId} {u v : State} (h : u.holdingStep n = some v) :
    s.OnlyLinks v ↔ s.OnlyLinks u := by
  unfold State.holdingStep at h; dsimp only at h; repeat' split at h
  all_goals first | (injection h with h; subst h; simp) | contradiction

theorem State.onlyLinks_cancellationStep {n : LinkId} {u v : State} (h : u.cancellationStep n = some v) :
    s.OnlyLinks v ↔ s.OnlyLinks u := by
  unfold State.cancellationStep at h; dsimp only at h; repeat' split at h
  all_goals first | (injection h with h; subst h; simp) | contradiction

theorem State.onlyLinks_windowStep {n : LinkId} {u v : State} (h : State.windowStep n u = some v) :
    s.OnlyLinks v ↔ s.OnlyLinks u := by
  unfold State.windowStep at h; dsimp only at h; repeat' split at h
  all_goals first
    | exact State.onlyLinks_holdingStep h
    | exact State.onlyLinks_cancellationStep h
    | (injection h with h; subst h; simp)
    | contradiction

@[simp] theorem State.onlyLinks_settleWindow (n : LinkId) :
    s.OnlyLinks (State.settleWindow n t) ↔ s.OnlyLinks t :=
  State.iterate_iff (P := s.OnlyLinks) _ (fun _ _ h => State.onlyLinks_windowStep h) 16 t

/-! ### SEND -/

@[simp] theorem State.onlyLinks_enterDescriptor (n : LinkId) (k : CursorKind) (i : Nat) :
    s.OnlyLinks (t.enterDescriptor n k i) ↔ s.OnlyLinks t := by simp [State.enterDescriptor]

@[simp] theorem State.onlyLinks_advanceFill (n : LinkId) : s.OnlyLinks (State.advanceFill n t) ↔ s.OnlyLinks t := by
  unfold State.advanceFill; dsimp only; repeat' split
  all_goals simp

@[simp] theorem State.onlyLinks_failSend (n : LinkId) (c : Copy) (o : Code) (d : Detail)
    (x : Option (ErrorClass × Option Addr × Option Word)) :
    s.OnlyLinks (t.failSend n c o d x) ↔ s.OnlyLinks t := by
  unfold State.failSend; dsimp only; split <;> simp

@[simp] theorem State.onlyLinks_linkErrorSend (n : LinkId) (c : Copy) (o : Code) :
    s.OnlyLinks (t.linkErrorSend n c o) ↔ s.OnlyLinks t := by simp [State.linkErrorSend]

@[simp] theorem State.onlyLinks_enterSetup (n : LinkId) : s.OnlyLinks (t.enterSetup n) ↔ s.OnlyLinks t := by
  unfold State.enterSetup; split <;> simp

@[simp] theorem State.onlyLinks_startByte (n : LinkId) : s.OnlyLinks (t.startByte n) ↔ s.OnlyLinks t := by
  unfold State.startByte; repeat' split
  all_goals simp

@[simp] theorem State.onlyLinks_drain (n : LinkId) : s.OnlyLinks (State.drain n t) ↔ s.OnlyLinks t := by
  unfold State.drain; dsimp only; repeat' split
  all_goals simp

@[simp] theorem State.onlyLinks_startSend (n : LinkId) (c : Copy) :
    s.OnlyLinks (t.startSend n c) ↔ s.OnlyLinks t := by
  unfold State.startSend; dsimp only; repeat' split
  all_goals simp

@[simp] theorem State.onlyLinks_startNextSend (n : LinkId) : s.OnlyLinks (t.startNextSend n) ↔ s.OnlyLinks t := by
  unfold State.startNextSend; repeat' split
  all_goals simp

@[simp] theorem State.onlyLinks_completeByte (n : LinkId) : s.OnlyLinks (t.completeByte n) ↔ s.OnlyLinks t := by
  unfold State.completeByte; dsimp only; repeat' split
  all_goals simp

@[simp] theorem State.onlyLinks_enterBusyAfter (n : LinkId) : s.OnlyLinks (t.enterBusyAfter n) ↔ s.OnlyLinks t := by
  unfold State.enterBusyAfter; split <;> simp

@[simp] theorem State.onlyLinks_beginStrobe (n : LinkId) : s.OnlyLinks (t.beginStrobe n) ↔ s.OnlyLinks t := by
  simp [State.beginStrobe]

@[simp] theorem State.onlyLinks_dropDraining (n : LinkId) : s.OnlyLinks (t.dropDraining n) ↔ s.OnlyLinks t := by
  unfold State.dropDraining; repeat' split
  all_goals simp

@[simp] theorem State.onlyLinks_endStopped (n : LinkId) : s.OnlyLinks (t.endStopped n) ↔ s.OnlyLinks t := by
  unfold State.endStopped; dsimp only; repeat' split
  all_goals simp

@[simp] theorem State.onlyLinks_endStrobe (n : LinkId) : s.OnlyLinks (t.endStrobe n) ↔ s.OnlyLinks t := by
  unfold State.endStrobe; dsimp only; repeat' split
  all_goals simp

@[simp] theorem State.onlyLinks_acknowledge (n : LinkId) : s.OnlyLinks (t.acknowledge n) ↔ s.OnlyLinks t := by
  unfold State.acknowledge; dsimp only; repeat' split
  all_goals simp

/-! ### RECEIVE -/

@[simp] theorem State.onlyLinks_failReceive (n : LinkId) (c : Copy) (o : Code) (d : Detail)
    (x : Option (ErrorClass × Option Addr × Option Word)) (h : Settling) :
    s.OnlyLinks (t.failReceive n c o d x h) ↔ s.OnlyLinks t := by
  unfold State.failReceive; dsimp only; split <;> simp

@[simp] theorem State.onlyLinks_linkErrorReceive (n : LinkId) (c : Copy) (o : Code) :
    s.OnlyLinks (t.linkErrorReceive n c o) ↔ s.OnlyLinks t := by simp [State.linkErrorReceive]

@[simp] theorem State.onlyLinks_startReceive (n : LinkId) (c : Copy) :
    s.OnlyLinks (t.startReceive n c) ↔ s.OnlyLinks t := by
  unfold State.startReceive; dsimp only; split <;> simp

@[simp] theorem State.onlyLinks_latchInto (n : LinkId) (c : Copy) (i : LineId) (d : Byte) :
    s.OnlyLinks (t.latchInto n c i d) ↔ s.OnlyLinks t := by simp [State.latchInto]

@[simp] theorem State.onlyLinks_latch (n : LinkId) (d : Byte) : s.OnlyLinks (t.latch n d) ↔ s.OnlyLinks t := by
  unfold State.latch; repeat' split
  all_goals simp

@[simp] theorem State.onlyLinks_attnEndsReceive (n : LinkId) (c : Copy) :
    s.OnlyLinks (t.attnEndsReceive n c) ↔ s.OnlyLinks t := by
  unfold State.attnEndsReceive; dsimp only; split <;> simp

@[simp] theorem State.onlyLinks_checkReceive (n : LinkId) :
    s.OnlyLinks (State.checkReceive n t) ↔ s.OnlyLinks t := by
  unfold State.checkReceive; dsimp only; repeat' split
  all_goals simp

@[simp] theorem State.onlyLinks_storedLine (n : LinkId) (i : LineId) :
    s.OnlyLinks (t.storedLine n i) ↔ s.OnlyLinks t := by simp [State.storedLine]

@[simp] theorem State.onlyLinks_storeFailed (n : LinkId) (i : LineId) (o : Code) :
    s.OnlyLinks (t.storeFailed n i o) ↔ s.OnlyLinks t := by
  unfold State.storeFailed; dsimp only; repeat' split
  all_goals simp

/-! ### SIGNAL, and the rest of an event -/

@[simp] theorem State.onlyLinks_beginWait (n : LinkId) : s.OnlyLinks (t.beginWait n) ↔ s.OnlyLinks t := by
  unfold State.beginWait; dsimp only; repeat' split
  all_goals simp

@[simp] theorem State.onlyLinks_checkWait (n : LinkId) : s.OnlyLinks (t.checkWait n) ↔ s.OnlyLinks t := by
  unfold State.checkWait; repeat' split
  all_goals simp

@[simp] theorem State.onlyLinks_startSignal (n : LinkId) (c : Copy) :
    s.OnlyLinks (t.startSignal n c) ↔ s.OnlyLinks t := by
  unfold State.startSignal; repeat' split
  all_goals (dsimp only; split <;> simp)

@[simp] theorem State.onlyLinks_endPulse (n : LinkId) : s.OnlyLinks (t.endPulse n) ↔ s.OnlyLinks t := by
  unfold State.endPulse; dsimp only; split <;> simp

@[simp] theorem State.onlyLinks_setLevels (n : LinkId) (a b : Option Bool) :
    s.OnlyLinks (t.setLevels n a b) ↔ s.OnlyLinks t := by
  unfold State.setLevels; dsimp only; split <;> simp

@[simp] theorem State.onlyLinks_waitExpired (n : LinkId) : s.OnlyLinks (t.waitExpired n) ↔ s.OnlyLinks t := by
  unfold State.waitExpired; dsimp only; repeat' split
  all_goals simp

/-- What one event leaves a link to do changes only link engines, ring units, lines, the control processor and the
error log. -/
@[simp] theorem State.onlyLinks_serveLink (n : LinkId) : s.OnlyLinks (State.serveLink n t) ↔ s.OnlyLinks t := by
  unfold State.serveLink; split <;> simp

@[simp] theorem State.onlyLinks_attnLatched (n : LinkId) : s.OnlyLinks (t.attnLatched n) ↔ s.OnlyLinks t := by
  unfold State.attnLatched; split <;> simp

/-- A link at rest is left as it is. -/
theorem State.serveLink_of_atRest {n : LinkId} (h : s.AtRest n) : State.serveLink n s = s := by
  obtain ⟨h1, h2, h3, h4, h5⟩ := h
  unfold State.serveLink
  split
  · rw [h1, h2, h3, h4, State.settleWindow, iterate, h5]
    exact h3
  · rfl

/-! ### Starting, notifies, and the reads of a ring unit -/

@[simp] theorem State.onlyLinks_failFront (n : LinkId) (c : Copy) :
    s.OnlyLinks (t.failFront n c) ↔ s.OnlyLinks t := by
  unfold State.failFront; dsimp only; split <;> simp

@[simp] theorem State.onlyLinks_startTurn (n : LinkId) (d : Direction) :
    s.OnlyLinks (t.startTurn n d) ↔ s.OnlyLinks t := by simp [State.startTurn]

@[simp] theorem State.onlyLinks_startCopy (n : LinkId) : s.OnlyLinks (t.startCopy n) ↔ s.OnlyLinks t := by
  unfold State.startCopy; dsimp only; repeat' split
  all_goals simp

@[simp] theorem State.onlyLinks_endTurn (n : LinkId) : s.OnlyLinks (t.endTurn n) ↔ s.OnlyLinks t := by
  unfold State.endTurn; dsimp only; repeat' split
  all_goals simp

@[simp] theorem State.onlyLinks_notify (n : LinkId) (k : Nat) : s.OnlyLinks (t.notify n k) ↔ s.OnlyLinks t := by
  unfold State.notify; split <;> simp

@[simp] theorem State.onlyLinks_fetchOver (n : LinkId) : s.OnlyLinks (t.fetchOver n) ↔ s.OnlyLinks t := by
  simp [State.fetchOver]

@[simp] theorem State.onlyLinks_fetchData (n : LinkId) (i c : Nat) (v : Vector Byte 64) :
    s.OnlyLinks (t.fetchData n i c v) ↔ s.OnlyLinks t := by
  unfold State.fetchData; dsimp only; split <;> simp

@[simp] theorem State.onlyLinks_fetchFailed (n : LinkId) (i : Nat) (f : MemFailure) :
    s.OnlyLinks (t.fetchFailed n i f) ↔ s.OnlyLinks t := by
  unfold State.fetchFailed; dsimp only; split <;> simp

@[simp] theorem State.onlyLinks_rereadData (n : LinkId) (i : Nat) (v : Vector Byte 64) :
    s.OnlyLinks (t.rereadData n i v) ↔ s.OnlyLinks t := by
  unfold State.rereadData; dsimp only; split <;> simp

@[simp] theorem State.onlyLinks_rereadFailed (n : LinkId) (i : Nat) (f : MemFailure) :
    s.OnlyLinks (t.rereadFailed n i f) ↔ s.OnlyLinks t := by
  unfold State.rereadFailed; dsimp only; repeat' split
  all_goals simp

@[simp] theorem State.onlyLinks_tableData (n : LinkId) (k : CursorKind) (i c : Nat) (v : Vector Byte 64) :
    s.OnlyLinks (t.tableData n k i c v) ↔ s.OnlyLinks t := by
  unfold State.tableData; dsimp only; repeat' split
  all_goals simp

@[simp] theorem State.onlyLinks_tableFailed (n : LinkId) (k : CursorKind) (i : Nat) (a : Addr) (f : MemFailure) :
    s.OnlyLinks (t.tableFailed n k i a f) ↔ s.OnlyLinks t := by
  unfold State.tableFailed; dsimp only; split <;> simp

@[simp] theorem State.onlyLinks_fillEnded (i : LineId) (e : ReadEnd) :
    s.OnlyLinks (t.fillEnded i e) ↔ s.OnlyLinks t := by
  unfold State.fillEnded; dsimp only; repeat' split
  all_goals simp

@[simp] theorem State.onlyLinks_storeEnded (i : LineId) (f : Option MemFailure) :
    s.OnlyLinks (t.storeEnded i f) ↔ s.OnlyLinks t := by
  unfold State.storeEnded; dsimp only; repeat' split
  all_goals simp

@[simp] theorem State.onlyLinks_discardOffers (n : LinkId) : s.OnlyLinks (t.discardOffers n) ↔ s.OnlyLinks t := by
  unfold State.discardOffers; dsimp only; split
  · simp
  · rw [State.onlyLinks_serveLink, State.foldl_iff (P := s.OnlyLinks) _ (fun u a => by simp)]; simp

/-! ### Commands on links -/

@[simp] theorem State.onlyLinks_offerCommandFetch : s.OnlyLinks t.offerCommandFetch ↔ s.OnlyLinks t := by
  unfold State.offerCommandFetch; dsimp only; split
  · simp [State.onlyLinks_iff]
  · rfl

@[simp] theorem State.onlyLinks_resultAccepted : s.OnlyLinks t.resultAccepted ↔ s.OnlyLinks t := by
  unfold State.resultAccepted; rw [State.onlyLinks_offerCommandFetch]; simp [State.onlyLinks_iff]

@[simp] theorem State.onlyLinks_configureLink (n : LinkId) (c : Vector Byte 32) :
    s.OnlyLinks (t.configureLink n c) ↔ s.OnlyLinks t := by
  unfold State.configureLink; dsimp only; repeat' split
  all_goals simp

@[simp] theorem State.onlyLinks_createTransferRing (n : LinkId) (c : Vector Byte 32) :
    s.OnlyLinks (t.createTransferRing n c) ↔ s.OnlyLinks t := by
  unfold State.createTransferRing; split <;> simp

@[simp] theorem State.onlyLinks_deleteTransferRing (n : LinkId) :
    s.OnlyLinks (t.deleteTransferRing n) ↔ s.OnlyLinks t := by
  unfold State.deleteTransferRing; split <;> simp

@[simp] theorem State.onlyLinks_resumeLink (n : LinkId) (c : Vector Byte 32) :
    s.OnlyLinks (t.resumeLink n c) ↔ s.OnlyLinks t := by
  unfold State.resumeLink State.resumeRetry State.resumeSkip State.resumeFlush; dsimp only; repeat' split
  all_goals simp

@[simp] theorem State.onlyLinks_abortLink (n : LinkId) : s.OnlyLinks (t.abortLink n) ↔ s.OnlyLinks t := by
  unfold State.abortLink; split <;> simp

@[simp] theorem State.onlyLinks_setLinesCommand (n : LinkId) (c : Vector Byte 32) :
    s.OnlyLinks (t.setLinesCommand n c) ↔ s.OnlyLinks t := by
  unfold State.setLinesCommand; repeat' split
  all_goals simp

@[simp] theorem State.onlyLinks_readCounters (c : Vector Byte 32) :
    s.OnlyLinks (t.readCounters c) ↔ s.OnlyLinks t := by
  unfold State.readCounters; split <;> simp

@[simp] theorem State.onlyLinks_readErrorLog (c : Vector Byte 32) :
    s.OnlyLinks (t.readErrorLog c) ↔ s.OnlyLinks t := by
  unfold State.readErrorLog; split
  · simp [State.onlyLinks_iff]
  · simp

end Sys2Proof.Machine
end

