-- ==== Sys2Proof/Laws/Ops.lean ====
section
/-! SUPPORT. What the shared operations come to, once for each: taking an event, ending a command, the end of a request
that an identifier holds, the search for a FREE identifier or line, and the arbiters. -/

namespace Sys2Proof.Machine

variable {s : State}

/-! ### Events -/

theorem State.live_of_released (h : s.resetHeld = false) (f : State → State) : s.live f = (f s).acceptOffers := by
  simp [State.live, h]

theorem State.sensed_of_released (h : s.resetHeld = false) (lv : Levels) (f : State → State) :
    s.sensed lv f = (f (s.sense lv)).acceptOffers := by
  simp [State.sensed, State.live, h]

@[simp] theorem State.errorLog_logEvent (e : ErrorEvent) : (s.logEvent e).errorLog = s.errorLog.after e := by
  unfold State.logEvent ErrorLog.after
  cases s.errorLog.first <;> rfl

theorem State.notices_logEvent (e : ErrorEvent) : (s.logEvent e).notices =
    if s.errorLog.first = none ∧ s.partState = .running then s.notices ++ [s.noticeFor e.cls] else s.notices := by
  unfold State.logEvent
  cases s.errorLog.first <;> simp

theorem State.endCommand_of_executing {c : Vector Byte 32} (h : s.control.state = .executing)
    (k : s.control.current = some c) (o : Code) : s.endCommand o = s.makeResult c o := by
  simp [State.endCommand, h, k]

theorem State.endCommand_of_not_executing (h : s.control.state ≠ .executing) (o : Code) : s.endCommand o = s := by
  unfold State.endCommand
  split <;> simp [h]

/-! ### Ends of requests -/

theorem State.checkSettle_of_ne (h : s.partState ≠ .resetting) : s.checkSettle = s := by
  simp [State.checkSettle, h]

theorem State.readEnd_of_holds {t : BusNo} {r : Route} (h : s.Holds .read t r) {e : ReadEnd} (he : e ≠ .timeout) :
    s.readEnd t e = ((s.modIdent .read t Ident.release).routeRead (s.readTag t).address e r).checkSettle := by
  obtain ⟨-, h1, h2⟩ := h
  simp only [State.ident] at h1 h2
  cases e <;> simp_all [State.readEnd]

theorem State.writeEnd_of_holds {t : BusNo} {r : Route} (h : s.Holds .write t r) {e : WriteEnd} (he : e ≠ .timeout) :
    s.writeEnd t e =
      ((s.modIdent .write t Ident.release).routeWrite (s.writeSlot t).address (writeFailure e) r).checkSettle := by
  obtain ⟨-, h1, h2⟩ := h
  simp only [State.ident] at h1 h2
  cases e <;> simp_all [State.writeEnd]

theorem State.commandRead_of_awaits {t : BusNo} (h : s.Awaits t) (c : Vector Byte 32) (act : State → State) :
    s.commandRead t c act = act ((s.modIdent .read t Ident.release).holdCommand c) := by
  obtain ⟨⟨-, h1, h2⟩, h3, h4⟩ := h
  simp only [State.ident] at h1 h2
  simp [State.commandRead, State.awaitsCommand, h1, h2, h3, h4]

/-! ### Searches -/

theorem State.lowestFree_free {k : BusKind} {t : BusNo} (h : s.lowestFree k = some t) : (s.ident k t).state = .free := by
  have := List.find?_some h
  simpa using this

theorem State.mem_freeLines {i : LineId} : i ∈ s.freeLines ↔ (s.line i).state = .free := by
  simp [State.freeLines, allLines]

theorem State.nextGrant_allowed {n : LinkId} (h : s.nextGrant = some n) : s.grantAllowed n = true :=
  List.find?_some h

theorem State.drainingLine_draining {n : LinkId} {i : LineId} (h : s.drainingLine n = some i) :
    i ∈ (s.link n).lines ∧ (s.line i).state = .draining :=
  ⟨List.mem_of_find?_eq_some h, by simpa using List.find?_some h⟩

theorem State.gatheringRoom_spec {n : LinkId} {i : LineId} (h : s.gatheringRoom n = some i) :
    i ∈ (s.link n).lines ∧ (s.line i).state = .gathering ∧ (s.line i).offset < (s.line i).length :=
  ⟨List.mem_of_find?_eq_some h, by simpa using List.find?_some h⟩

theorem RingUnit.current_spec {u : RingUnit} {c : Copy} (h : u.current = some c) : c ∈ u.window ∧ c.exec = .current :=
  ⟨List.mem_of_find?_eq_some h, by simpa using List.find?_some h⟩

theorem RingUnit.copy_spec {u : RingUnit} {i : Nat} {c : Copy} (h : u.copy i = some c) : c ∈ u.window ∧ c.slot = i :=
  ⟨List.mem_of_find?_eq_some h, by simpa using List.find?_some h⟩

/-! ### The arbiters -/

/-- What one acceptance can do (R128). -/
theorem State.acceptOne_cases (r : RingId) : s.acceptOne r = s ∨
    s.hasPlace r = true ∧ ∃ p rec, s.nextProducer r = some p ∧ s.presented r p = some rec ∧
      s.acceptOne r = (s.modRing r (StatusRing.take · p rec)).tellAccepted p := by
  unfold State.acceptOne
  split
  · split
    · split
      · exact .inr ⟨‹_›, _, _, ‹_›, ‹_›, rfl⟩
      · exact .inl rfl
    · exact .inl rfl
  · exact .inl rfl

/-- An offer presented to a ring with a place is accepted (R128). -/
theorem State.acceptOne_of_place {r : RingId} {p : Producer} {rec : StatusRecord} (h : s.hasPlace r = true)
    (hp : s.nextProducer r = some p) (hr : s.presented r p = some rec) :
    s.acceptOne r = (s.modRing r (StatusRing.take · p rec)).tellAccepted p := by
  simp [State.acceptOne, h, hp, hr]

/-- The order of a link's offers is all that presenting the COMPLETION or hold record first can change (R127). -/
theorem Link.mainFirst_eq (l : Link) : l.mainFirst = { l with offers := l.mainFirst.offers } := rfl

@[simp] theorem Link.mem_offers_mainFirst {l : Link} {o : Offer} : o ∈ l.mainFirst.offers ↔ o ∈ l.offers := by
  simp only [Link.mainFirst, List.mem_append, List.mem_filter]
  cases o.purpose <;> simp

@[simp] theorem Link.mainFirst_of_no_offers {l : Link} (h : l.offers = []) : l.mainFirst = l := by
  cases l; simp_all [Link.mainFirst]

/-- An acceptance in the event that makes the offer: that of any other event, but for the order of what its link then
presents (R127). -/
theorem State.acceptNew_cases (r : RingId) : s.acceptNew r = s.acceptOne r ∨
    ∃ n, s.nextProducer r = some (.link n) ∧ s.acceptNew r = (s.acceptOne r).modLink n Link.mainFirst := by
  unfold State.acceptNew
  split
  · exact .inr ⟨_, ‹_›, rfl⟩
  · exact .inl rfl

theorem State.mem_ringIds (r : RingId) : r ∈ ringIds := by
  rcases r with _ | n
  · decide
  · revert n; decide

/-- Nothing is left to accept exactly where no ring with a place has an offer (R128). -/
theorem State.acceptNext_eq_none : s.acceptNext = none ↔ ∀ r, s.hasPlace r = true → s.nextProducer r = none := by
  simp [State.acceptNext, State.mem_ringIds]

/-- The next acceptance is that of one ring with a place and an offer. -/
theorem State.acceptNext_some {t : State} (h : s.acceptNext = some t) :
    ∃ r, s.hasPlace r = true ∧ (s.nextProducer r).isSome = true ∧ t = s.acceptNew r := by
  simp only [State.acceptNext, Option.map_eq_some_iff] at h
  obtain ⟨r, hr, rfl⟩ := h
  have := List.find?_some hr
  simp only [Bool.and_eq_true] at this
  exact ⟨r, this.1, this.2, rfl⟩

/-- Where no ring with a place has an offer, the acceptance changes nothing. -/
theorem State.acceptOffers_of_settled (h : ∀ r, s.hasPlace r = true → s.nextProducer r = none) :
    s.acceptOffers = s := by
  simp [State.acceptOffers, iterate, State.acceptNext_eq_none.2 h]

theorem State.hasPlace_of_not_running (h : s.partState ≠ .running) (r : RingId) : s.hasPlace r = false := by
  simp [State.hasPlace, h]

/-- Outside RUNNING nothing is accepted (R128). -/
theorem State.acceptOffers_of_not_running (h : s.partState ≠ .running) : s.acceptOffers = s :=
  State.acceptOffers_of_settled fun r hr => by simp [State.hasPlace_of_not_running h] at hr

theorem iterate_induction {f : State → Option State} {P : State → Prop} (step : ∀ s t, f s = some t → P s → P t)
    (k : Nat) (h : P s) : P (iterate f k s) := by
  induction k generalizing s with
  | zero => exact h
  | succ k ih =>
    rw [iterate]
    split
    · exact ih (step _ _ ‹_› h)
    · exact h

/-- What holds of the part and is kept by each acceptance holds after all that an event makes. -/
theorem State.acceptOffers_induction {P : State → Prop}
    (step : ∀ s r, s.hasPlace r = true → (s.nextProducer r).isSome = true → P s → P (s.acceptNew r)) (h : P s) :
    P s.acceptOffers :=
  iterate_induction (fun s t ht hs => by
    obtain ⟨r, h1, h2, rfl⟩ := State.acceptNext_some ht
    exact step s r h1 h2 hs) 40 h

/-- What the class arbiter can do while it may make a grant more (R183, R188). -/
theorem State.issueUpTo_succ_cases (k : BusKind) (m : Nat) :
    ((s.lowestFree k = none ∨ s.nextRequest k = none) ∧ State.issueUpTo k (m + 1) s = s) ∨
    ∃ t c, s.lowestFree k = some t ∧ s.nextRequest k = some c ∧
      State.issueUpTo k (m + 1) s = State.issueUpTo k m (s.issue k t c) := by
  rw [State.issueUpTo]
  rcases ht : s.lowestFree k with _ | t
  · exact .inl ⟨.inl rfl, by simp⟩
  · rcases hc : s.nextRequest k with _ | c
    · exact .inl ⟨.inr rfl, by simp⟩
    · exact .inr ⟨t, c, rfl, rfl, rfl⟩

/-- What holds of the part and is kept by each issue holds after all of an event's grants. -/
theorem State.issueUpTo_induction {k : BusKind} {P : State → Prop}
    (step : ∀ s t c, s.lowestFree k = some t → s.nextRequest k = some c → P s → P (s.issue k t c)) (m : Nat) (h : P s) :
    P (State.issueUpTo k m s) := by
  induction m generalizing s with
  | zero => exact h
  | succ m ih =>
    obtain ⟨-, hs⟩ | ⟨t, c, ht, hc, hs⟩ := State.issueUpTo_succ_cases (s := s) k m
    · rwa [hs]
    · rw [hs]
      exact ih (step s t c ht hc h)

/-- The request chosen is that of the highest class with one (R188). -/
theorem State.nextRequest_cases {k : BusKind} {c : Choice} (h : s.nextRequest k = some c) :
    (∃ m, s.nextMember k = some (m, c.request) ∧ c = ⟨.a, .group, some m, c.request⟩) ∨
    s.nextMember k = none ∧ ((∃ n, s.nextLink k .b = some (n, c.request) ∧ c = ⟨.b, .link n, none, c.request⟩) ∨
      s.nextLink k .b = none ∧ ∃ n, s.nextLink k .c = some (n, c.request) ∧ c = ⟨.c, .link n, none, c.request⟩) := by
  unfold State.nextRequest at h
  split at h
  · cases h
    exact .inl ⟨_, ‹_›, rfl⟩
  · split at h
    · cases h
      exact .inr ⟨‹_›, .inl ⟨_, ‹_›, rfl⟩⟩
    · simp only [Option.map_eq_some_iff] at h
      obtain ⟨p, hp, rfl⟩ := h
      exact .inr ⟨‹_›, .inr ⟨‹_›, p.1, hp, rfl⟩⟩

/-- What one grant of the pool arbiter can do (R57). -/
theorem State.grantOne_cases : s.grantOne = s ∨ ∃ n i is, s.nextGrant = some n ∧ s.freeLines = i :: is ∧
    s.grantOne =
      State.serveLink n (({ s.cutLine n (s.link n).streamCursor i with grantPtr := n }).noteGrant n i) := by
  unfold State.grantOne
  split
  · exact .inr ⟨_, _, _, ‹_›, ‹_›, rfl⟩
  · exact .inl rfl

/-- The three ways a late response can find its identifier (R186). -/
theorem State.late_cases (k : BusKind) (t : BusNo) :
    ((s.ident k t).state = .busy ∧ s.late k t = s) ∨
    ((s.ident k t).state = .free ∧ s.late k t = s.countLate.logEvent (busEvent .lateResponse none k t)) ∨
    ((s.ident k t).state = .stale ∧ s.late k t =
      (((s.modIdent k t Ident.release).setExhausted k false).countLate).logEvent
        (busEvent .lateResponse (some (s.ident k t).address) k t)) := by
  unfold State.late
  cases h : (s.ident k t).state <;> simp [h]

end Sys2Proof.Machine
end

