-- ==== Sys2Proof/WellFormed.lean ====
section
/-! DEFINITION. Which words and records a row of the table stands for. A register write belongs to a row by its word's
bits (R195, R196), a command by its record's code (section 11.6.6). -/

namespace Sys2Proof

/-- The selector of a RING_NOTIFY or STATUS_RELEASE word (R196). -/
def selectorOf (w : Word) : Nat := (w.extractLsb' 24 4).toNat

/-- The code of a command record, its byte 0. -/
def codeOf (v : Vector Byte 32) : Nat := v[0].toNat

/-- A word that RUN stands for: RUN set and SOFT_RESET clear. -/
def isRunWord (w : Word) : Bool := w.getLsbD 0 && !w.getLsbD 1

/-- A word that SOFT_RESET stands for. -/
def isSoftResetWord (w : Word) : Bool := w.getLsbD 1

/-- A selector of T0 to T3, or of S0 to S3. -/
def isRingSelector (w : Word) : Bool := selectorOf w < 4

/-- The selector of the control ring, or of SC. -/
def isControlSelector (w : Word) : Bool := selectorOf w == 8

/-- A write that REGISTER_WRITE stands for: any but a whole CONTROL write that sets RUN or SOFT_RESET. A RING_NOTIFY or
STATUS_RELEASE write is one outside RUNNING. -/
def isPlainWrite (offset : BitVec 5) (bytes : Nat) (w : Word) : Bool :=
  !(offset == 0x04 && bytes == 4 && (w.getLsbD 0 || w.getLsbD 1))

/-- The command belongs to its row. -/
def Instr.wellFormed : Instr → Bool
  | .run w => isRunWord w
  | .softReset w => isSoftResetWord w
  | .settleWaitEnd => true
  | .hardwareReset => true
  | .transferRingNotify w => isRingSelector w
  | .controlRingNotify w => isControlSelector w
  | .notifyBadSelector w => !isRingSelector w && !isControlSelector w
  | .release w => isRingSelector w || isControlSelector w
  | .releaseBadSelector w => !isRingSelector w && !isControlSelector w
  | .registerWrite offset bytes w => isPlainWrite offset bytes w
  | .startRecordReadEnd .. => true
  | .commandFetchFailed .. => true
  | .unknownCommand _ c _ => codeOf c < 1 || 10 < codeOf c
  | .createStatusRing _ c _ => codeOf c == 1
  | .deleteStatusRing _ c _ => codeOf c == 2
  | .configureLink _ c _ => codeOf c == 3
  | .createTransferRing _ c _ => codeOf c == 4
  | .deleteTransferRing _ c _ => codeOf c == 5
  | .resumeLink _ c _ => codeOf c == 6
  | .abortLink _ c _ => codeOf c == 7
  | .setLines _ c _ => codeOf c == 8
  | .readCounters _ c _ => codeOf c == 9
  | .readErrorLog _ c _ => codeOf c == 10
  | .descriptorFetchData .. => true
  | .descriptorSlotFetchFailure .. => true
  | .descriptorRereadEnd .. => true
  | .tableReadData .. => true
  | .tableReadFailure .. => true
  | .fillEnd .. => true
  | .discardPendingFillEnd .. => true
  | .storeDone .. => true
  | .storeFailure .. => true
  | .statusWriteDone .. => true
  | .statusWriteFailed .. => true
  | .statusRingFailure .. => true
  | .messageWriteEnd .. => true
  | .counterBlockWriteEnd .. => true
  | .errorLogWriteEnd .. => true
  | .responseTimeout .. => true
  | .lateResponse .. => true
  | .requestIssue .. => true
  | .lineGrant .. => true
  | .offerAccept .. => true
  | .descriptorStart .. => true
  | .turnaroundEnd .. => true
  | .setupEnd .. => true
  | .strobeEnd .. => true
  | .holdEnd .. => true
  | .busyLow .. => true
  | .ackPulse .. => true
  | .handshakeTimeout .. => true
  | .inboundHandshakeTimeout .. => true
  | .byteLatch .. => true
  | .attnRising .. => true
  | .faultFalling .. => true
  | .pulseTimerExpiry .. => true
  | .signalWaitMet .. => true
  | .signalWaitLimitExpiry .. => true
  | .moderationTimerExpiry .. => true
  | .resetRelease => true

end Sys2Proof
end

