-- ==== Sys2Proof/Laws/PerInstr.lean ====
section
/-! SUPPORT. One lemma for each command: a command that carries neither a register word nor a command record belongs to
its row whatever its operands. -/

namespace Sys2Proof.Laws.Events

/-- The command carries a written word or a command record, whose bits decide its row (R165, R195, R196). -/
def carriesField : Instr → Bool
  | .run .. => true
  | .softReset .. => true
  | .settleWaitEnd => false
  | .hardwareReset => false
  | .transferRingNotify .. => true
  | .controlRingNotify .. => true
  | .notifyBadSelector .. => true
  | .release .. => true
  | .releaseBadSelector .. => true
  | .registerWrite .. => true
  | .startRecordReadEnd .. => false
  | .commandFetchFailed .. => false
  | .unknownCommand .. => true
  | .createStatusRing .. => true
  | .deleteStatusRing .. => true
  | .configureLink .. => true
  | .createTransferRing .. => true
  | .deleteTransferRing .. => true
  | .resumeLink .. => true
  | .abortLink .. => true
  | .setLines .. => true
  | .readCounters .. => true
  | .readErrorLog .. => true
  | .descriptorFetchData .. => false
  | .descriptorSlotFetchFailure .. => false
  | .descriptorRereadEnd .. => false
  | .tableReadData .. => false
  | .tableReadFailure .. => false
  | .fillEnd .. => false
  | .discardPendingFillEnd .. => false
  | .storeDone .. => false
  | .storeFailure .. => false
  | .statusWriteDone .. => false
  | .statusWriteFailed .. => false
  | .statusRingFailure .. => false
  | .messageWriteEnd .. => false
  | .counterBlockWriteEnd .. => false
  | .errorLogWriteEnd .. => false
  | .responseTimeout .. => false
  | .lateResponse .. => false
  | .requestIssue .. => false
  | .lineGrant .. => false
  | .offerAccept .. => false
  | .descriptorStart .. => false
  | .turnaroundEnd .. => false
  | .setupEnd .. => false
  | .strobeEnd .. => false
  | .holdEnd .. => false
  | .busyLow .. => false
  | .ackPulse .. => false
  | .handshakeTimeout .. => false
  | .inboundHandshakeTimeout .. => false
  | .byteLatch .. => false
  | .attnRising .. => false
  | .faultFalling .. => false
  | .pulseTimerExpiry .. => false
  | .signalWaitMet .. => false
  | .signalWaitLimitExpiry .. => false
  | .moderationTimerExpiry .. => false
  | .resetRelease => false

/-- A command without such a field is well-formed with every operand. -/
def Statement (i : Instr) : Prop := carriesField i = false → i.wellFormed = true

theorem run (w : Word) : Statement (.run w) :=
  fun h => Bool.noConfusion h
theorem softReset (w : Word) : Statement (.softReset w) :=
  fun h => Bool.noConfusion h
theorem settleWaitEnd : Statement (.settleWaitEnd) := fun _ => rfl
theorem hardwareReset : Statement (.hardwareReset) := fun _ => rfl
theorem transferRingNotify (w : Word) : Statement (.transferRingNotify w) :=
  fun h => Bool.noConfusion h
theorem controlRingNotify (w : Word) : Statement (.controlRingNotify w) :=
  fun h => Bool.noConfusion h
theorem notifyBadSelector (w : Word) : Statement (.notifyBadSelector w) :=
  fun h => Bool.noConfusion h
theorem release (w : Word) : Statement (.release w) :=
  fun h => Bool.noConfusion h
theorem releaseBadSelector (w : Word) : Statement (.releaseBadSelector w) :=
  fun h => Bool.noConfusion h
theorem registerWrite (offset : BitVec 5) (bytes : Nat) (w : Word) : Statement (.registerWrite offset bytes w) :=
  fun h => Bool.noConfusion h
theorem startRecordReadEnd (tag : BusNo) (e : ReadEnd) (lv : Levels) : Statement (.startRecordReadEnd tag e lv) := fun _ => rfl
theorem commandFetchFailed (tag : BusNo) (f : MemFailure) (lv : Levels) : Statement (.commandFetchFailed tag f lv) := fun _ => rfl
theorem unknownCommand (tag : BusNo) (c : Vector Byte 32) (lv : Levels) : Statement (.unknownCommand tag c lv) :=
  fun h => Bool.noConfusion h
theorem createStatusRing (tag : BusNo) (c : Vector Byte 32) (lv : Levels) : Statement (.createStatusRing tag c lv) :=
  fun h => Bool.noConfusion h
theorem deleteStatusRing (tag : BusNo) (c : Vector Byte 32) (lv : Levels) : Statement (.deleteStatusRing tag c lv) :=
  fun h => Bool.noConfusion h
theorem configureLink (tag : BusNo) (c : Vector Byte 32) (lv : Levels) : Statement (.configureLink tag c lv) :=
  fun h => Bool.noConfusion h
theorem createTransferRing (tag : BusNo) (c : Vector Byte 32) (lv : Levels) : Statement (.createTransferRing tag c lv) :=
  fun h => Bool.noConfusion h
theorem deleteTransferRing (tag : BusNo) (c : Vector Byte 32) (lv : Levels) : Statement (.deleteTransferRing tag c lv) :=
  fun h => Bool.noConfusion h
theorem resumeLink (tag : BusNo) (c : Vector Byte 32) (lv : Levels) : Statement (.resumeLink tag c lv) :=
  fun h => Bool.noConfusion h
theorem abortLink (tag : BusNo) (c : Vector Byte 32) (lv : Levels) : Statement (.abortLink tag c lv) :=
  fun h => Bool.noConfusion h
theorem setLines (tag : BusNo) (c : Vector Byte 32) (lv : Levels) : Statement (.setLines tag c lv) :=
  fun h => Bool.noConfusion h
theorem readCounters (tag : BusNo) (c : Vector Byte 32) (lv : Levels) : Statement (.readCounters tag c lv) :=
  fun h => Bool.noConfusion h
theorem readErrorLog (tag : BusNo) (c : Vector Byte 32) (lv : Levels) : Statement (.readErrorLog tag c lv) :=
  fun h => Bool.noConfusion h
theorem descriptorFetchData (tag : BusNo) (bytes : Vector Byte 64) (lv : Levels) : Statement (.descriptorFetchData tag bytes lv) := fun _ => rfl
theorem descriptorSlotFetchFailure (tag : BusNo) (f : MemFailure) (lv : Levels) : Statement (.descriptorSlotFetchFailure tag f lv) := fun _ => rfl
theorem descriptorRereadEnd (tag : BusNo) (e : ReadEnd) (lv : Levels) : Statement (.descriptorRereadEnd tag e lv) := fun _ => rfl
theorem tableReadData (tag : BusNo) (bytes : Vector Byte 64) (lv : Levels) : Statement (.tableReadData tag bytes lv) := fun _ => rfl
theorem tableReadFailure (tag : BusNo) (f : MemFailure) (lv : Levels) : Statement (.tableReadFailure tag f lv) := fun _ => rfl
theorem fillEnd (tag : BusNo) (e : ReadEnd) (lv : Levels) : Statement (.fillEnd tag e lv) := fun _ => rfl
theorem discardPendingFillEnd (tag : BusNo) (e : ReadEnd) (lv : Levels) : Statement (.discardPendingFillEnd tag e lv) := fun _ => rfl
theorem storeDone (slot : BusNo) (lv : Levels) : Statement (.storeDone slot lv) := fun _ => rfl
theorem storeFailure (slot : BusNo) (f : MemFailure) (lv : Levels) : Statement (.storeFailure slot f lv) := fun _ => rfl
theorem statusWriteDone (slot : BusNo) (lv : Levels) : Statement (.statusWriteDone slot lv) := fun _ => rfl
theorem statusWriteFailed (slot : BusNo) (f : MemFailure) (lv : Levels) : Statement (.statusWriteFailed slot f lv) := fun _ => rfl
theorem statusRingFailure (slot : BusNo) (f : MemFailure) (lv : Levels) : Statement (.statusRingFailure slot f lv) := fun _ => rfl
theorem messageWriteEnd (slot : BusNo) (e : WriteEnd) (lv : Levels) : Statement (.messageWriteEnd slot e lv) := fun _ => rfl
theorem counterBlockWriteEnd (slot : BusNo) (e : WriteEnd) (lv : Levels) : Statement (.counterBlockWriteEnd slot e lv) := fun _ => rfl
theorem errorLogWriteEnd (slot : BusNo) (e : WriteEnd) (lv : Levels) : Statement (.errorLogWriteEnd slot e lv) := fun _ => rfl
theorem responseTimeout (kind : BusKind) (id : BusNo) (lv : Levels) : Statement (.responseTimeout kind id lv) := fun _ => rfl
theorem lateResponse (kind : BusKind) (id : BusNo) : Statement (.lateResponse kind id) := fun _ => rfl
theorem requestIssue (kind : BusKind) (lv : Levels) : Statement (.requestIssue kind lv) := fun _ => rfl
theorem lineGrant (lv : Levels) : Statement (.lineGrant lv) := fun _ => rfl
theorem offerAccept (r : RingId) (lv : Levels) : Statement (.offerAccept r lv) := fun _ => rfl
theorem descriptorStart (n : LinkId) (lv : Levels) : Statement (.descriptorStart n lv) := fun _ => rfl
theorem turnaroundEnd (n : LinkId) (lv : Levels) : Statement (.turnaroundEnd n lv) := fun _ => rfl
theorem setupEnd (n : LinkId) (lv : Levels) : Statement (.setupEnd n lv) := fun _ => rfl
theorem strobeEnd (n : LinkId) (lv : Levels) : Statement (.strobeEnd n lv) := fun _ => rfl
theorem holdEnd (n : LinkId) (lv : Levels) : Statement (.holdEnd n lv) := fun _ => rfl
theorem busyLow (n : LinkId) (lv : Levels) : Statement (.busyLow n lv) := fun _ => rfl
theorem ackPulse (n : LinkId) (lv : Levels) : Statement (.ackPulse n lv) := fun _ => rfl
theorem handshakeTimeout (n : LinkId) (lv : Levels) : Statement (.handshakeTimeout n lv) := fun _ => rfl
theorem inboundHandshakeTimeout (n : LinkId) (lv : Levels) : Statement (.inboundHandshakeTimeout n lv) := fun _ => rfl
theorem byteLatch (n : LinkId) (d : Byte) (lv : Levels) : Statement (.byteLatch n d lv) := fun _ => rfl
theorem attnRising (n : LinkId) (lv : Levels) : Statement (.attnRising n lv) := fun _ => rfl
theorem faultFalling (n : LinkId) (lv : Levels) : Statement (.faultFalling n lv) := fun _ => rfl
theorem pulseTimerExpiry (n : LinkId) (lv : Levels) : Statement (.pulseTimerExpiry n lv) := fun _ => rfl
theorem signalWaitMet (n : LinkId) (lv : Levels) : Statement (.signalWaitMet n lv) := fun _ => rfl
theorem signalWaitLimitExpiry (n : LinkId) (lv : Levels) : Statement (.signalWaitLimitExpiry n lv) := fun _ => rfl
theorem moderationTimerExpiry (r : RingId) : Statement (.moderationTimerExpiry r) := fun _ => rfl
theorem resetRelease : Statement (.resetRelease) := fun _ => rfl

end Sys2Proof.Laws.Events
end

