-- ==== Sys2Proof/Tests/Slice0.lean ====
section
/-! SUPPORT. Tests. First the checks of WellFormed, each with a term it refuses. Then, for each command, what one step
of it does on a small state, with the expected values taken from the spec's tables and examples. Last, for each
statement of Certificates/Slice0/Obligations.lean with hypotheses, states and operands that meet them, for each of its
clauses. -/

namespace Sys2Proof.Tests

/- One theorem at a time: checked side by side, the many evaluations below ask for more threads than check.sh's memory
limit leaves room for. -/
set_option Elab.async false

open Sys2Proof.Machine

/-! ### Small states -/

/-- No input changes. -/
def quiet : Levels := Vector.replicate 4 quietPins

/-- A RUNNING part with a control ring of 8 slots, SC, and S0. -/
def base : State :=
  { State.reset with
    partState := .running
    control := { Control.reset with base := 0x1000, size := 8 }
    sc := { StatusRing.reset with state := .active, base := 0x2000, size := 16 }
    sRings := State.reset.sRings.set 0 { StatusRing.reset with state := .active, base := 0x3000, size := 16 } }

def config : LinkConfig :=
  { handshake := .paced, inboundEnabled := true, setup := 1, strobe := 2, hold := 3, turnaround := 4, timeout := 5,
    faultStops := false, reserve := 1, ceiling := 8, depth := 4, ctl0Initial := false, ctl1Initial := true }

/-- The same part with link 0 RUNNING, and T0 of 8 slots bound to S0. -/
def linked : State :=
  { base with
    links := base.links.set 0 { Link.reset with state := .running, config := config }
    units := base.units.set 0 { RingUnit.reset with bound := true, base := 0x4000, size := 8, statusRing := some 0 } }

/-- An INLINE descriptor of one segment of 100 bytes from 10010h on. -/
def descriptor (k : DescKind) : Descriptor :=
  { kind := some k, quiet := false, shortIsError := false, expiryIsError := false, pauseAfter := false,
    clearAttention := false, tag := 7, byteCount := 100, form := some .inline, segmentCount := 1, addr0 := 0x10010,
    len0 := 100, len1 := 0, addr1 := 0, ctl0 := some .keep, ctl1 := some .keep, pulseWidth := 0, wait := some .none,
    waitLimit := 0 }

/-- A VALID copy of slot 0. -/
def copyOf (k : DescKind) (e : ExecState) : Copy :=
  { slot := 0, desc := some (descriptor k), verdict := .valid, inlineMismatch := false, exec := e, outcome := none,
    detail := .absent, bytesDone := none }

/-- Link 0 and T0 changed, with a window of one copy. -/
def onLink (c : Copy) (f : Link → Link) : State :=
  (linked.modLink 0 f).modUnit 0 fun u => { u with window := [c], fetched := 1, tail := 1 }

/-- Link 0 with two copies in its window, the front one in a state, and the other unstarted. -/
def windowed (c : Copy) (f : Link → Link) : State :=
  (onLink c f).modUnit 0 fun u =>
    { u with window := [c, { copyOf .receive .waiting with slot := 1 }], fetched := 2, tail := 2 }

/-- Link 0 with a CURRENT SEND whose line 0 drains, in a phase. -/
def sending (p : BytePhase) : State :=
  (onLink (copyOf .send .current) fun l =>
    { l with sub := .sending, phase := p, lines := [0], handshakeTimer := some 5, fillCursor := .atEnd 0 }).modLine 0
    fun x => { x with state := .draining, owner := some 0, address := 0x10010, length := 48 }

/-- Link 0 with a CURRENT RECEIVE that gathers into line 0, which has a length and an offset. -/
def receiving (length offset : Nat) : State :=
  (onLink (copyOf .receive .current) fun l =>
    { l with sub := .receiving, dir := .inbound, gathering := true, lines := [0], handshakeTimer := some 5,
             storeCursor := .inside 0 0 length }).modLine 0
    fun x => { x with state := .gathering, owner := some 0, address := 0x10010, length := length, offset := offset }

/-- Tag or slot 0 BUSY with a request of a route. -/
def holding (s : State) (k : BusKind) (r : Route) : State :=
  s.modIdent k 0 fun _ => { Ident.reset with state := .busy, cls := some .a, address := 0x5000, length := 64,
                                             route := some r, timer := some 1 }

/-- The control processor waits for the command fetch that tag 0 holds. -/
def awaiting (s : State) : State :=
  holding (s.modControl fun c => { c with state := .fetching, fetched := 1, tail := 1 }) .read .command

/-- A command record: the bytes given, the others 0. -/
def command (l : List (Nat × Byte)) : Vector Byte 32 := Vector.ofFn fun i => (l.lookup i.val).getD 0

/-- 64 bytes: the bytes given, the others 0. -/
def bytes (l : List (Nat × Byte)) : Vector Byte 64 := Vector.ofFn fun i => (l.lookup i.val).getD 0

/-- What a test asks of the state that one step reaches. -/
def after (o : Host.Outcome State Fault Refusal) (p : State → Bool) : Bool :=
  match o with
  | .next t => p t
  | _ => false

/-- The one record of SC's list has an outcome. -/
def answers (t : State) (o : Code) : Bool := t.sc.pending.map (·.outcome) == [o]

/-- The records that S0 has taken. -/
def records (t : State) : List (Code × Nat) := (t.ring (.s 0)).pending.map fun r => (r.outcome, r.bytesDone)

/-! ### WellFormed -/

theorem test_run_needs_run_bit : (Instr.run 0).wellFormed = false ∧ (Instr.run 3).wellFormed = false := by decide
theorem test_soft_reset_needs_its_bit : (Instr.softReset 1).wellFormed = false := by decide
theorem test_transfer_notify_needs_ring : (Instr.transferRingNotify 0x04000000).wellFormed = false := by decide
theorem test_control_notify_needs_selector_8 : (Instr.controlRingNotify 0x03000000).wellFormed = false := by decide
theorem test_bad_selector_is_no_ring :
    (Instr.notifyBadSelector 0x08000000).wellFormed = false ∧ (Instr.releaseBadSelector 0).wellFormed = false := by
  decide
theorem test_release_needs_ring : (Instr.release 0x09000000).wellFormed = false := by decide
theorem test_register_write_is_not_run : (Instr.registerWrite 0x04 4 1).wellFormed = false := by decide
theorem test_unknown_command_is_not_listed :
    (Instr.unknownCommand 0 (command [(0, 1)]) quiet).wellFormed = false ∧
    (Instr.unknownCommand 0 (command [(0, 10)]) quiet).wellFormed = false := by decide +kernel
theorem test_commands_need_their_codes :
    (Instr.createStatusRing 0 (command [(0, 2)]) quiet).wellFormed = false ∧
    (Instr.deleteStatusRing 0 (command [(0, 3)]) quiet).wellFormed = false ∧
    (Instr.configureLink 0 (command [(0, 4)]) quiet).wellFormed = false ∧
    (Instr.createTransferRing 0 (command [(0, 5)]) quiet).wellFormed = false ∧
    (Instr.deleteTransferRing 0 (command [(0, 6)]) quiet).wellFormed = false ∧
    (Instr.resumeLink 0 (command [(0, 7)]) quiet).wellFormed = false ∧
    (Instr.abortLink 0 (command [(0, 8)]) quiet).wellFormed = false ∧
    (Instr.setLines 0 (command [(0, 9)]) quiet).wellFormed = false ∧
    (Instr.readCounters 0 (command [(0, 10)]) quiet).wellFormed = false ∧
    (Instr.readErrorLog 0 (command [(0, 9)]) quiet).wellFormed = false := by decide +kernel

/-! ### Fields with no listed meaning -/

/-- R201, R171, R22: a handshake of 4 and a wait condition of 7 name nothing. -/
theorem test_unlisted_values :
    (Handshake.decode 4 = none ∧ Handshake.decode 0 = some .none) ∧
    (WaitCond.decode 7 = none ∧ WaitCond.decode 0 = some .none) := by decide

/-! ### One step of each command -/

/-- R195, R197. -/
theorem test_run : after (exec (.run 1) State.reset) fun t =>
    t.partState == .starting && t.stateRegister == 1 && t.startRead == some 0 := by decide +kernel

/-- R199: nothing is BUSY, so STATE shows DORMANT at the next read. -/
theorem test_soft_reset : after (exec (.softReset 3) linked) fun t =>
    t.stateRegister == 0 && (t.link 0).state == .unconfigured := by decide +kernel

/-- R192, R199: a tag still BUSY at the end of the settle wait is STALE. -/
theorem test_settle_wait_end :
    after (exec .settleWaitEnd (holding { base with partState := .resetting, settleTimer := some 10 } .read .command))
      fun t => t.stateRegister == 0x100 && (t.readTag 0).address == 0x5000 := by decide +kernel

/-- R200. -/
theorem test_hardware_reset : after (exec .hardwareReset linked) fun t =>
    t.resetHeld && t.partState == .dormant && (t.portOut 0).stb && !(t.portOut 0).dir := by decide +kernel
theorem test_reset_release : after (exec .resetRelease { State.reset with resetHeld := true }) fun t =>
    t == State.reset := by decide +kernel

/-- Section 1.8: head 6, fetched 2, tail 4 of 8; a notify of 1 is refused, of 2 taken. -/
theorem test_transfer_ring_notify :
    let s := linked.modUnit 0 fun u => { u with head := 6, fetched := 2, tail := 3 }
    after (exec (.transferRingNotify 1) s) (fun t =>
      (t.unit 0).tail == 3 && t.errorLog.first.map (·.code) == some .notifyRetract) ∧
    after (exec (.transferRingNotify 2) s) (fun t => (t.unit 0).tail == 2 && t.errorLog.first.isNone) := by
  decide +kernel
theorem test_transfer_ring_notify_range : after (exec (.transferRingNotify 8) linked) fun t =>
    t.errorLog.first.map (·.code) == some .notifyRange := by decide +kernel

/-- R162, R163: the fetched position advances with the offer of the fetch. -/
theorem test_control_ring_notify : after (exec (.controlRingNotify 0x08000005) base) fun t =>
    t.control.tail == 5 && t.control.fetched == 1 && t.control.state == .fetching &&
    t.controlRead.map (·.address) == some 0x1000 := by decide +kernel

/-- R128, R196: SC accepts the ERROR_NOTICE in the same event. -/
theorem test_notify_bad_selector : after (exec (.notifyBadSelector 0x0F00000A) base) fun t =>
    t.errorLog.first.map (·.detail) == some (some 0x0F00000A) && t.notices.isEmpty && answers t .errorNotice := by
  decide +kernel
theorem test_release_bad_selector : after (exec (.releaseBadSelector 0x04000000) base) fun t =>
    t.errorLog.first.map (·.code) == some .releaseRange := by decide +kernel

/-- R133, R135: 3 unreleased, a release of 2 leaves 1 and makes a message due; a release past the tail is refused. -/
theorem test_release :
    let s := base.modRing (.s 0) fun x =>
      { x with tail := 3, unreleased := 3, msgAddr := 0x7000, intState := .moderating }
    after (exec (.release 2) s) (fun t =>
      (t.ring (.s 0)).unreleased == 1 && (t.ring (.s 0)).msgDue && (t.ring (.s 0)).intState == .signalled) ∧
    after (exec (.release 4) s) (fun t => t.errorLog.first.map (·.code) == some .releaseRange) := by decide +kernel

/-- R194. -/
theorem test_register_write : after (exec (.registerWrite 0x0C 4 0xFFFFFFFF) State.reset) fun t =>
    t.startAddr == 0xFFFFFFC0 && t.readRegister 0x0C 4 == 0xFFFFFFC0 := by decide +kernel
theorem test_register_write_hi : after (exec (.registerWrite 0x10 4 0xFFFFFFFF) State.reset) fun t =>
    t.startAddr == 0xFFFF00000000 && t.readRegister 0x10 4 == 0xFFFF && t.readRegister 0x00 4 == 0x01040D3A := by
  decide +kernel

/-- The start record: control ring of 8 slots at 1000h, SC of 16 slots at 2000h, moderation count 1. -/
def startRecord (format : Byte) : Vector Byte 64 :=
  bytes [(0, format), (4, 8), (6, 16), (9, 0x10), (17, 0x20), (36, 1)]

/-- The start record read is outstanding. -/
def starting : State := holding { State.reset with partState := .starting, startRead := some 0x5000 } .read .startRecord

/-- R197: the detail of START_INVALID is the offset of the field that failed. -/
theorem test_start_record_read_end : after (exec (.startRecordReadEnd 0 (.data (startRecord 1)) quiet) starting) fun t =>
    t.partState == .running && t.control.base == 0x1000 && t.sc.base == 0x2000 && t.sc.size == 16 := by decide +kernel
theorem test_start_record_invalid : after (exec (.startRecordReadEnd 0 (.data (startRecord 2)) quiet) starting) fun t =>
    t.stateRegister == 0x23 && t.errorLog.first.map (·.detail) == some (some 0) && t.notices.isEmpty := by decide +kernel

/-- R164. -/
theorem test_command_fetch_failed : after (exec (.commandFetchFailed 0 .error quiet) (awaiting base)) fun t =>
    t.stateRegister == 0x33 && t.errorLog.first.map (·.code) == some .controlFetchFailed := by decide +kernel

/-- R165, R166: the RESULT of a code that is not listed, which SC accepts at once. -/
theorem test_unknown_command :
    after (exec (.unknownCommand 0 (command [(0, 11), (2, 70)]) quiet) (awaiting base)) fun t =>
      t.sc.pending.map (fun r => (r.outcome, r.tag, r.ringHead, r.detail)) ==
        [(.unknownCommand, 70, 1, .commandCode 11)] && t.control.head == 1 && t.control.state == .idle := by
  decide +kernel

/-- R168: size 16, base 3000h, moderation count 1. -/
theorem test_create_status_ring :
    after (exec (.createStatusRing 0 (command [(0, 1), (1, 1), (4, 16), (6, 1), (9, 0x30)]) quiet) (awaiting base))
      fun t => (t.ring (.s 1)).state == .active && (t.ring (.s 1)).base == 0x3000 && answers t .ok := by
  decide +kernel
/-- R169: a bound ring unit names S0. -/
theorem test_delete_status_ring :
    after (exec (.deleteStatusRing 0 (command [(0, 2)]) quiet) (awaiting linked)) (fun t =>
      answers t .refusedInUse) ∧
    after (exec (.deleteStatusRing 0 (command [(0, 2)]) quiet) (awaiting base)) (fun t =>
      (t.ring (.s 0)).state == .absent && answers t .ok) := by decide +kernel

/-- A CONFIGURE LINK record: PACED, inbound, reserve 1, ceiling 8, depth 4, CTL1 high. -/
def configure (n : Byte) : Vector Byte 32 :=
  command [(0, 3), (1, n), (4, 1), (5, 1), (6, 1), (7, 2), (8, 3), (9, 4), (10, 5), (13, 1), (14, 8), (15, 4), (17, 1)]

/-- R170, R171. -/
theorem test_configure_link : after (exec (.configureLink 0 (configure 2) quiet) (awaiting base)) fun t =>
    (t.link 2).state == .stopped && (t.link 2).config == config && (t.portOut 2).ctl1 && !(t.portOut 2).ctl0 := by
  decide +kernel
theorem test_configure_running_link : after (exec (.configureLink 0 (configure 0) quiet) (awaiting linked)) fun t =>
    answers t .refusedState := by decide +kernel

/-- R172: size 8, base 4000h, status ring 0. -/
def createRing : Vector Byte 32 := command [(0, 4), (1, 1), (4, 8), (9, 0x40)]
theorem test_create_transfer_ring :
    let s := awaiting (base.modLink 1 fun l => { l with state := .stopped, config := config })
    after (exec (.createTransferRing 0 createRing quiet) s) (fun t =>
      (t.link 1).state == .running && (t.unit 1).bound && (t.unit 1).base == 0x4000) := by decide +kernel
/-- R157, R173: nothing is under way. -/
theorem test_delete_transfer_ring :
    after (exec (.deleteTransferRing 0 (command [(0, 5)]) quiet) (awaiting linked)) fun t =>
      (t.link 0).state == .stopped && !(t.unit 0).bound && answers t .ok := by decide +kernel

/-- Link 0 HELD with a FAILED copy of slot 0. -/
def held : State :=
  onLink { copyOf .send .failed with outcome := some .linkTimeout, bytesDone := some 3 } fun l =>
    { l with state := .held, holdCause := some .error, heldCopy := some 0, holdRecord := .done }

/-- R152, R153: RETRY wants the slot read again, SKIP retires it. -/
theorem test_resume_link :
    after (exec (.resumeLink 0 (command [(0, 6), (4, 1)]) quiet) (awaiting held)) (fun t =>
      (t.link 0).state == .running && (t.unit 0).reread == .wanted && (t.unit 0).head == 0) ∧
    after (exec (.resumeLink 0 (command [(0, 6), (4, 2)]) quiet) (awaiting held)) (fun t =>
      (t.link 0).state == .running && (t.unit 0).window.isEmpty && (t.unit 0).head == 1) := by decide +kernel
/-- R175: the posted slots retire unseen. -/
theorem test_abort_link :
    after (exec (.abortLink 0 (command [(0, 7)]) quiet) (awaiting (linked.modUnit 0 fun u => { u with tail := 5 })))
      fun t => (t.link 0).state == .running && (t.unit 0).head == 5 && answers t .ok := by decide +kernel
/-- R84, R176. -/
theorem test_set_lines :
    after (exec (.setLines 0 (command [(0, 8), (4, 2), (5, 0)]) quiet) (awaiting linked)) fun t =>
      (t.portOut 0).ctl0 && t.sc.pending.map (·.snapshot.ctl0) == [true] := by decide +kernel
/-- R177, R179. -/
theorem test_read_counters :
    after (exec (.readCounters 0 (command [(0, 9), (9, 0x90)]) quiet) (awaiting linked)) fun t =>
      t.controlWrite.map (fun q => (q.address, q.length)) == some (0x9000, 64) := by decide +kernel
theorem test_read_error_log :
    after (exec (.readErrorLog 0 (command [(0, 10), (8, 1)]) quiet) (awaiting linked)) fun t =>
      answers t .refusedRange := by decide +kernel

/-- The bytes of the SEND of descriptor. -/
def sendBytes : Vector Byte 64 := bytes [(0, 1), (2, 7), (4, 100), (7, 0x10), (8, 0x10), (10, 1), (16, 100)]

/-- R8. -/
theorem test_descriptor_fetch_data :
    after (exec (.descriptorFetchData 0 sendBytes quiet) (holding linked .read (.descriptor 0 0 1))) fun t =>
      (t.unit 0).window.map (fun c =>
        (c.slot, c.verdict, c.desc.map (fun d => (d.tag, d.byteCount, d.addr0, d.len0)))) ==
        [(0, .valid, some (7, 100, 0x10010, 100))] := by decide +kernel
/-- R9: the slot after the first one read. -/
theorem test_descriptor_slot_fetch_failure :
    after (exec (.descriptorSlotFetchFailure 0 .error quiet) (holding linked .read (.descriptor 0 6 2))) fun t =>
      (t.unit 0).fetched == 7 && (t.unit 0).window.map (·.verdict) == [.unreadable .error] &&
      t.errorLog.first.map (·.address) == some (some 0x40C0) := by decide +kernel
/-- R17. -/
theorem test_descriptor_reread_end :
    let s := (held.modUnit 0 fun u => { u with reread := .outstanding, fetchOutstanding := true }).modLink 0 Link.running
    after (exec (.descriptorRereadEnd 0 (.data sendBytes) quiet) (holding s .read (.reread 0 0))) (fun t =>
      (t.unit 0).window.map (fun c => (c.exec, c.outcome)) == [(.waiting, none)] && (t.unit 0).reread == .none) := by
  decide +kernel

/-- Link 0 with a TABLE SEND of 2 entries whose table read is outstanding. -/
def tabled : State :=
  holding ((onLink { copyOf .send .current with
    desc := some { descriptor .send with form := some .table, addr0 := 0x6000, len0 := 2 } } fun l =>
    { l with sub := .sending, fillCursor := .inside 0 0 0 }).modSegWindow 0 .fill fun w =>
    { w with read := .live, next := 2 }) .read (.table 0 .fill 0 2)

/-- R27: 60 + 40 bytes pass; 60 + 41 go above byte_count. -/
theorem test_table_read_data :
    after (exec (.tableReadData 0 (bytes [(8, 60), (24, 40)]) quiet) tabled) (fun t =>
      (t.unit 0).fillWindow.entries.map (·.length) == [60, 40] && (t.unit 0).fillWindow.mismatch.isNone) ∧
    after (exec (.tableReadData 0 (bytes [(8, 60), (24, 41)]) quiet) tabled) (fun t =>
      (t.unit 0).fillWindow.entries.map (·.length) == [60] &&
      (t.unit 0).fillWindow.mismatch == some (1, .segmentMismatch)) := by decide +kernel
/-- R28: the mismatch point stands at entry 0, and with no line left the SEND fails there (R98); its record is taken at
once, which ends HOLDING. -/
theorem test_table_read_failure : after (exec (.tableReadFailure 0 .error quiet) tabled) fun t =>
    (t.link 0).state == .held && (t.unit 0).window.map (·.outcome) == [some .memoryReadError] := by decide +kernel

/-- Link 0 with a CURRENT SEND and line 0 in a state. -/
def filling (x : LineState) : State :=
  holding ((sending .none).modLine 0 fun y => { y with state := x, last := true }) .read (.fill 0)

/-- R42, R44, R70: the line is READY and the drain starts with it. -/
theorem test_fill_end :
    after (exec (.fillEnd 0 (.data (bytes [(0, 0xA5)])) quiet) (filling .filling)) fun t =>
      (t.line 0).state == .draining && (t.link 0).phase == .setup && (t.link 0).lastByte == 0xA5 := by decide +kernel
/-- R43, R60. -/
theorem test_discard_pending_fill_end :
    after (exec (.discardPendingFillEnd 0 .error quiet) (filling .discardPending)) fun t =>
      (t.line 0).state == .free && (t.link 0).linesDiscarded == 1 && (t.link 0).lines.isEmpty := by decide +kernel

/-- Link 0 with a CURRENT RECEIVE, its gathering ended by ATTN, whose only line is STORING. -/
def storing : State :=
  holding (((receiving 48 48).modLine 0 fun x => { x with state := .storing, last := true }).modLink 0 fun l =>
    { l with gathering := false, endCause := .attn, gathered := 48 }) .write (.store 0)

/-- R114, R115, R128: the last store ends the RECEIVE, and S0 takes its record, with which it retires. -/
theorem test_store_done : after (exec (.storeDone 0 quiet) storing) fun t =>
    (t.line 0).state == .free && (t.link 0).bytesIn == 48 && records t == [(.endedEarly, 48)] &&
    (t.unit 0).head == 1 && (t.unit 0).window.isEmpty := by decide +kernel
/-- R118, R120, R145: the hold record is accepted in the event that makes it, which ends HOLDING. -/
theorem test_store_failure : after (exec (.storeFailure 0 .error quiet) storing) fun t =>
    (t.link 0).state == .held && t.errorLog.first.map (·.code) == some .memoryWriteError &&
    records t == [(.memoryWriteError, 0)] := by decide +kernel

/-- S0 with a status write outstanding for slot 0, and moderation count 2. -/
def written : State :=
  holding (base.modRing (.s 0) fun x =>
    { x with writeOutstanding := some 0, tail := 1, msgAddr := 0x7000, modCount := 2, modDelay := 3 }) .write
    (.status (.s 0) 0 true)

/-- R130, R134. -/
theorem test_status_write_done : after (exec (.statusWriteDone 0 quiet) written) fun t =>
    (t.ring (.s 0)).intState == .moderating && (t.ring (.s 0)).modTimer == some 3 &&
    (t.ring (.s 0)).unreleased == 1 := by decide +kernel
/-- R131. -/
theorem test_status_write_failed :
    after (exec (.statusWriteFailed 0 .error quiet) (holding base .write (.status .sc 2 true))) fun t =>
      t.stateRegister == 0x43 && t.errorLog.first.map (·.address) == some (some 0x2020) := by decide +kernel
/-- R132, R140. -/
theorem test_status_ring_failure : after (exec (.statusRingFailure 0 .error quiet) written) fun t =>
    (t.ring (.s 0)).state == .failed && t.recordsDiscarded == 1 && t.partState == .running := by decide +kernel
/-- R138. -/
theorem test_message_write_end :
    after (exec (.messageWriteEnd 0 .error quiet) (holding base .write (.message (.s 0) true))) fun t =>
      t.errorLog.first.map (·.code) == some .messageWriteFailed && !(t.ring (.s 0)).msgOutstanding := by decide +kernel
/-- R134. -/
theorem test_moderation_timer_expiry :
    after (exec (.moderationTimerExpiry .sc)
      (base.modRing .sc fun x => { x with intState := .moderating, modTimer := some 1 })) fun t =>
      t.sc.msgDue && t.sc.intState == .signalled && t.sc.modTimer.isNone := by decide +kernel

/-- READ COUNTERS with clear, BYTES_OUT of L0 captured at 40,000, the first write ended. -/
def counted : State :=
  holding ((linked.modLink 0 fun l => { l with bytesOut := 40012, linesDiscarded := 2 }).modControl fun c =>
    { c with state := .executing, current := some (command [(0, 9), (4, 1), (9, 0x90)]), fetched := 1, tail := 1,
             capture := .counters ((Vector.replicate 26 0).set 0 40000 |>.set 5 2), write0 := .ended,
             write1 := .issued }) .write (.counters true)

/-- Section 9.13: 40,012 − 40,000 = 12, and 2 − 2 = 0. -/
theorem test_counter_block_write_end : after (exec (.counterBlockWriteEnd 0 .done quiet) counted) fun t =>
    (t.link 0).bytesOut == 12 && (t.link 0).linesDiscarded == 0 && answers t .ok := by decide +kernel
/-- R179. -/
theorem test_error_log_write_end :
    let s := holding (State.modControl { base.logEvent (unsolicited 0) with notices := [] } fun c =>
      { c with state := .executing, current := some (command [(0, 10), (4, 1)]), capture := .log base.errorLog,
               write0 := .issued }) .write .log
    after (exec (.errorLogWriteEnd 0 .done quiet) s) (fun t => t.errorLog.first.isSome && answers t .ok) ∧
    after (exec (.errorLogWriteEnd 0 .done quiet) { s with errorLog := { s.errorLog with sinceCapture := false } })
      (fun t => t.errorLog.first.isNone) := by decide +kernel

/-- R185, with no requester left to tell. -/
theorem test_late_response :
    let s := base.modIdent .write 3 fun _ => { Ident.reset with state := .stale, address := 0x5000 }
    after (exec (.lateResponse .write 3) s) (fun t =>
      (t.writeSlot 3).state == .free && t.lateResponses == 1 &&
      t.errorLog.first.map (fun e => (e.address, e.detail)) == some (some 0x5000, some 259)) := by decide +kernel

/-- R183, R188: a fetch of T0 in class B gives way to a command fetch in class A, and follows it in the same event. -/
theorem test_request_issue :
    let s := (linked.modUnit 0 fun u => { u with tail := 5 })
    after (exec (.requestIssue .read quiet) s) (fun t =>
      (t.readTag 0).route == some (.descriptor 0 0 2) && (t.unit 0).fetched == 2 && (t.readTag 0).length == 64) ∧
    after (exec (.requestIssue .read quiet) (s.modControl fun c =>
      { c with state := .fetching, fetched := 1, tail := 1 }))
      (fun t => (t.readTag 0).route == some .command && (t.readTag 0).cls == some .a &&
        (t.readTag 1).route == some (.descriptor 0 0 2) && (t.readTag 2).state == .free) := by decide +kernel

/-- R39: the first line of a segment at 10010h ends at the 64-byte boundary. -/
theorem test_line_grant :
    after (exec (.lineGrant quiet) (onLink (copyOf .send .current) fun l =>
      { l with sub := .sending, fillCursor := .inside 0 0 0 })) fun t =>
      (t.line 0).state == .filling && (t.line 0).length == 48 && (t.link 0).fillCursor == .inside 0 0 48 &&
      t.grantPtr == 0 := by decide +kernel

/-- A record of L0. -/
def record : StatusRecord := base.linkRecord 0 .completion 7 .ok 100 1 none .absent

/-- Link 0 with a finished SEND whose COMPLETION stands. -/
def offering : State :=
  onLink { copyOf .send .doneUnretired with outcome := some .ok, bytesDone := some 100 } fun l =>
    { l with offers := [{ purpose := .retire, record := record }] }

/-- R13, R128: L0's record is the one that S0 takes. With a list of 7 it takes the last place. -/
theorem test_offer_accept :
    after (exec (.offerAccept (.s 0) quiet) offering) (fun t =>
      (t.ring (.s 0)).pending == [record] && (t.unit 0).head == 1 && (t.unit 0).window.isEmpty &&
      (t.ring (.s 0)).pointer == .link 0) ∧
    after (exec (.offerAccept (.s 0) quiet)
      ((windowed { copyOf .send .doneUnretired with outcome := some .ok, bytesDone := some 100 } fun l =>
        { l with offers := [{ purpose := .retire, record := record },
                            { purpose := .attention, record := record }] }).modRing
        (.s 0) fun x => { x with pending := List.replicate 7 record })) (fun t =>
      (t.ring (.s 0)).pending.length == 8 && (t.link 0).offers.map (·.purpose) == [.attention]) := by decide +kernel

/-- R89, R95. -/
theorem test_descriptor_start :
    after (exec (.descriptorStart 0 quiet) (onLink (copyOf .send .waiting) id)) fun t =>
      (t.link 0).sub == .sending && (t.unit 0).window.map (·.exec) == [.current] &&
      (t.link 0).fillCursor == .inside 0 0 0 := by decide +kernel
/-- R32, R68: a RECEIVE turns an outbound link around. -/
theorem test_descriptor_start_turns :
    after (exec (.descriptorStart 0 quiet) (onLink (copyOf .receive .waiting) id)) fun t =>
      (t.link 0).sub == .turning && (t.link 0).dir == .inbound && (t.link 0).turnTimer == some 4 := by decide +kernel

/-- Link 0 TURNING to inbound before a RECEIVE. -/
def turning : State := onLink (copyOf .receive .waiting) fun l => { l.turn .inbound with sub := .turning }

/-- R68, R106. -/
theorem test_turnaround_end : after (exec (.turnaroundEnd 0 quiet) turning) fun t =>
    (t.link 0).sub == .receiving && (t.link 0).gathering && (t.link 0).storeCursor == .inside 0 0 0 := by decide +kernel

/-- R70 to R74. -/
theorem test_setup_end : after (exec (.setupEnd 0 quiet) (sending .setup)) fun t =>
    (t.link 0).phase == .strobe && !(t.portOut 0).stb && (t.link 0).handshakeTimer == some 5 := by decide +kernel
theorem test_strobe_end : after (exec (.strobeEnd 0 quiet) (sending .strobe)) fun t =>
    (t.link 0).phase == .ackWait && (t.portOut 0).stb := by decide +kernel
theorem test_hold_end : after (exec (.holdEnd 0 quiet) (sending .hold)) fun t =>
    (t.link 0).sentCount == 1 && (t.link 0).bytesOut == 1 && (t.line 0).offset == 1 && (t.link 0).phase == .setup := by
  decide +kernel
theorem test_busy_low : after (exec (.busyLow 0 quiet) (sending .busyWait)) fun t =>
    (t.link 0).phase == .setup && !(t.pin 0).busy := by decide +kernel
theorem test_ack_pulse : after (exec (.ackPulse 0 quiet) (sending .ackWait)) fun t =>
    (t.link 0).sentCount == 1 && (t.link 0).phase == .setup := by decide +kernel
/-- R74, R87, R99: the byte under way is not counted. -/
theorem test_handshake_timeout : after (exec (.handshakeTimeout 0 quiet) (sending .ackWait)) fun t =>
    (t.link 0).state == .held && (t.link 0).linkTimeouts == 1 &&
    (t.unit 0).window.map (fun c => (c.outcome, c.bytesDone)) == [(some .linkTimeout, some 0)] := by decide +kernel
/-- R77, R112: a GATHERING line with bytes is sealed. -/
theorem test_inbound_handshake_timeout : after (exec (.inboundHandshakeTimeout 0 quiet) (receiving 48 2)) fun t =>
    (t.link 0).state == .holding && (t.line 0).state == .sealed && (t.line 0).length == 2 := by decide +kernel

/-- R76, R110. -/
theorem test_byte_latch : after (exec (.byteLatch 0 0x5A quiet) (receiving 48 47)) fun t =>
    (t.line 0).state == .sealed && (t.line 0).data[47] == 0x5A && (t.link 0).gathered == 1 &&
    !(t.portOut 0).stb := by decide +kernel
theorem test_byte_latch_unsolicited :
    after (exec (.byteLatch 0 0x5A quiet) (linked.modLink 0 fun l => { l with dir := .inbound })) fun t =>
      t.errorLog.first.map (·.code) == some .unsolicitedOverrun := by decide +kernel
/-- R79, R80. -/
theorem test_attn_rising : after (exec (.attnRising 0 quiet) (receiving 48 2)) fun t =>
    !(t.link 0).gathering && (t.link 0).endCause == .attn && (t.line 0).state == .sealed &&
    !(t.link 0).attnLatch := by decide +kernel
/-- R78. -/
theorem test_fault_falling :
    let s := (sending .setup).modLink 0 fun l => { l with config := { config with faultStops := true } }
    after (exec (.faultFalling 0 quiet) s) (fun t =>
      (t.unit 0).window.map (·.outcome) == [some .linkFault] && (t.link 0).linkTimeouts == 0) := by decide +kernel

/-- Link 0 with a CURRENT SIGNAL that waits for ATTN low. -/
def waiting (expiry : Bool) : State :=
  onLink { copyOf .signal .current with
    desc := some { descriptor .signal with wait := some .attnLow, expiryIsError := expiry } } fun l =>
    { l with sub := .signalling, wait := some .attnLow, limitTimer := some 9 }

/-- Link 0 with a CURRENT SIGNAL in its pulse phase. -/
def pulsing : State :=
  onLink (copyOf .signal .current) fun l =>
    { l with sub := .signalling, ctl0 := true, restore0 := some false, pulseTimer := some 3 }

/-- R80, R83, R127, R128: the edge that a SIGNAL awaits ends it, and its record goes ahead of the ATTENTION record,
which carries its ring_head. -/
theorem test_attn_rising_latches :
    after (exec (.attnRising 0 quiet) linked) (fun t =>
      (t.link 0).attnLatch && !(t.link 0).attnOwed && records t == [(.attention, 0)]) ∧
    after (exec (.attnRising 0 quiet) ((waiting false).modLink 0 fun l => { l with wait := some .attnHigh })) (fun t =>
      (t.ring (.s 0)).pending.map (fun x => (x.outcome, x.ringHead, x.snapshot.latch)) ==
        [(.ok, 1, true), (.attention, 1, true)]) := by decide +kernel

/-- R127, R148: the edge ends a SIGNAL with PAUSE_AFTER, and the PAUSE hold record of the event goes ahead of the
ATTENTION record. -/
theorem test_pause_record_before_attention :
    let s := onLink { copyOf .signal .current with
      desc := some { descriptor .signal with wait := some .attnHigh, pauseAfter := true } } fun l =>
        { l with sub := .signalling, wait := some .attnHigh }
    after (exec (.attnRising 0 quiet) s) (fun t => (t.link 0).state == .held &&
      (t.ring (.s 0)).pending.map (fun x => (x.kind, x.outcome, x.holdCause)) ==
        [(.completion, .ok, none), (.event, .ok, some .pause), (.event, .attention, none)]) := by decide +kernel

/-- R82, R83. -/
theorem test_pulse_timer_expiry : after (exec (.pulseTimerExpiry 0 quiet) pulsing) fun t =>
    !(t.link 0).ctl0 && (t.link 0).descOk == 1 && (t.link 0).sub == .idle := by decide +kernel
theorem test_signal_wait_met : after (exec (.signalWaitMet 0 quiet) (waiting false)) fun t =>
    (t.link 0).wait.isNone && records t == [(.ok, 0)] := by decide +kernel
/-- R83, R146. -/
theorem test_signal_wait_limit_expiry :
    after (exec (.signalWaitLimitExpiry 0 quiet) (waiting false)) (fun t =>
      (t.link 0).state == .running && records t == [(.waitExpired, 0)]) ∧
    after (exec (.signalWaitLimitExpiry 0 quiet) (waiting true)) (fun t =>
      (t.link 0).state == .held && (t.ring (.s 0)).pending.map (·.holdCause) == [some .error]) := by decide +kernel

/-! ### Acts inside an event -/

/-- R30: a table read of the ring before this one, still BUSY, bars a new one. -/
theorem test_old_table_read_bars :
    let s := tabled.modSegWindow 0 .fill fun w => { w with read := .none, next := 0 }
    s.tableReadWanted 0 .fill = none ∧
    (s.modIdent .read 0 fun _ => Ident.reset).tableReadWanted 0 .fill = some (0, 2, 0x6000) := by decide +kernel

/-- Link 0 with a finished copy of slot 0 that is QUIET and has PAUSE_AFTER. -/
def pausing : State :=
  onLink { copyOf .signal .doneUnretired with
    desc := some { descriptor .signal with quiet := true, pauseAfter := true }, outcome := some .ok,
    bytesDone := some 0 } id

/-- R148: the copy waits at the front while an earlier PAUSE record stands, and else retires into the hold. -/
theorem test_quiet_pause_waits :
    State.windowStep 0 (pausing.modLink 0 fun l =>
      { l with offers := [{ purpose := .pause, record := record }] }) = none ∧
    (State.windowStep 0 pausing).map (fun t =>
      ((t.link 0).state, (t.link 0).holdCause, (t.link 0).offers.map (·.purpose), (t.unit 0).head)) =
      some (.held, some .pause, [.pause], 1) := by decide +kernel

/-- R149: in HOLDING with the cause changed to STATUS_LOST, a held copy at the front offers its own record. -/
theorem test_held_copy_offers :
    (State.windowStep 0 (held.modLink 0 fun l =>
      { l with state := .holding, holdCause := some .statusLost, holdRecord := .owed })).map (fun t =>
        (t.link 0).offers.map (·.purpose)) = some [.holdRecord] := by decide +kernel

/-- R149, R101: with S0 FAILED the discard of the front copy's record cancels the SEND behind it, no byte of which is
under way, and fixes its bytes_done in the same event. -/
theorem test_lost_record_fixes_bytes :
    let s := (((sending .none).modRing (.s 0) fun x => { x with state := .failed }).modUnit 0 fun u =>
      { u with window := [{ copyOf .send .doneUnretired with outcome := some .ok, bytesDone := some 9 },
                          { copyOf .send .current with slot := 1 }] }).modLink 0 fun l =>
      { l with lines := [], sentCount := 5 }
    ((State.serveLink 0 s).unit 0).window.map (fun c => (c.exec, c.outcome, c.bytesDone)) =
      [(.doneUnretired, some .ok, some 9), (.doneUnretired, some .cancelled, some 5)] := by decide +kernel

/-! ### Witnesses

Each theorem below names a statement. Its conjuncts are hypotheses of that statement, all of one clause together, at
states and operands that meet them; where a clause has a range, the operands stand at an end of it. -/

theorem witness_StepRunsFront : (base.withPending [.resetRelease]).pending = .resetRelease :: [] ∧ base.pending = [] :=
  ⟨rfl, rfl⟩

/-- The part's own items of the invariant, in a form that evaluates. -/
theorem partInv_of (s : State)
    (h : s.startAddr.toNat % 64 = 0 ∧ (s.startRead.isSome ↔ s.partState = .starting) ∧
      (s.haltCause ≠ .none ↔ s.partState = .halted) ∧ (s.settleTimer.isSome ↔ s.partState = .resetting) ∧
      (s.partState = .resetting → s.anyBusy = true) ∧ (s.resetHeld = true → s.partState = .dormant))
    (hr : ∀ t, ((s.readTag t).timer.isSome ↔ (s.readTag t).state = .busy) ∧
      ((s.readTag t).route.isSome → (s.readTag t).state = .busy))
    (hw : ∀ t, ((s.writeSlot t).timer.isSome ↔ (s.writeSlot t).state = .busy) ∧
      ((s.writeSlot t).route.isSome → (s.writeSlot t).state = .busy))
    (hc : s.busyC .read ≤ 6 ∧ s.busyC .write ≤ 6)
    (he : (s.readExhausted = true ↔ ∀ t, (s.readTag t).state = .stale) ∧
      (s.writeExhausted = true ↔ ∀ t, (s.writeSlot t).state = .stale))
    (hp : s.sc.pending.length ≤ 8 ∧ ∀ n, (s.ring (.s n)).pending.length ≤ 8) : s.PartInv := by
  obtain ⟨h1, h2, h3, h4, h5, h6⟩ := h
  exact ⟨h1, h2, h3, h4, h5, h6, fun k => match k with | .read => hr | .write => hw,
    fun k => match k with | .read => hc.1 | .write => hc.2, fun k => match k with | .read => he.1 | .write => he.2,
    fun r => match r with | .sc => hp.1 | .s n => hp.2 n⟩

/-- The same for the ring units of a RUNNING part, no link of which is in QUIESCING. -/
theorem unitInv_of (s : State) (hp : s.partState = .running) (hs : ∀ n, (s.link n).snapshot = none)
    (hb : ∀ n, ((s.unit n).bound = true ↔ (s.link n).state ≠ .unconfigured ∧ (s.link n).state ≠ .stopped) ∧
      ((s.unit n).bound = false → s.unit n = RingUnit.reset))
    (hu : ∀ n, (s.unit n).bound = true → powerOfTwoIn 8 1024 (s.unit n).size = true ∧
      ((s.unit n).head < (s.unit n).size ∧ (s.unit n).fetched < (s.unit n).size ∧ (s.unit n).tail < (s.unit n).size) ∧
      (s.unit n).window.length ≤ 4 ∧
      (s.unit n).window.map (·.slot) = (List.range (s.unit n).window.length).map (s.unit n).slotAt ∧
      ((s.unit n).window.filter fun c => c.exec = .current).length ≤ 1 ∧
      (s.unit n).window.Pairwise fun a b => b.unstarted = true ∨ a.exec = .doneUnretired) : s.UnitInv where
  bound n := (hb n).1
  unbound n := (hb n).2
  units n h := let ⟨a, b, c, d, e, f⟩ := hu n h; ⟨a, b, c, d, e, f⟩
  snapshots n x _ h := by simp [hs n] at h
  idle h := by simp [hp] at h

/-- The same for the descriptor reads of a part whose read tags are all without a request. -/
theorem fetchInv_of (s : State) (hr : ∀ t, (s.readTag t).route = none)
    (hf : ∀ n, (s.unit n).bound = true → (s.unit n).fetched = (s.unit n).slotAt (s.unit n).window.length) :
    s.FetchInv where
  outstanding t r n h := by simp [hr t] at h
  one t u r q n h := by simp [hr t] at h
  fetching _ t n slot count h := by simp [hr t] at h
  fetched _ n h _ := hf n h

/-- The same for the rings of a RUNNING part. -/
theorem ringInv_of (s : State)
    (hs : s.sc.IndexInv ∧ ∀ n, (s.ring (.s n)).IndexInv)
    (hc : powerOfTwoIn 8 256 s.control.size = true ∧ s.control.head < s.control.size ∧
      s.control.fetched < s.control.size ∧ s.control.tail < s.control.size)
    (hr : s.sc.state = .active ∧ s.control.size ≠ 0) : s.RingInv where
  status r := match r with
    | .sc => hs.1
    | .s n => hs.2 n
  control _ := hc
  running _ := hr

/-- The same for the offers. -/
theorem offerInv_of (s : State)
    (h : ((s.hasPlace .sc = true → s.nextProducer .sc = none) ∧
        ∀ n, s.hasPlace (.s n) = true → s.nextProducer (.s n) = none) ∧
      (s.partState ≠ .running → s.notices = [] ∧ s.control.resultOffer = none ∧ ∀ n, (s.link n).offers = [])) :
    s.OfferInv where
  settled r := match r with
    | .sc => h.1.1
    | .s n => h.1.2 n
  dropped := h.2

/-- A command that answers a next state answers one. -/
theorem next_of {o : Host.Outcome State Fault Refusal} (h : after o (fun _ => true) = true) : ∃ t, o = .next t := by
  cases o <;> simp_all [after]

/-- A RUNNING part whose link 0 gathers the bytes of a RECEIVE into line 0, and one of which arrives. -/
def gathers : State := (receiving 48 2).withPending [.byteLatch 0 0x5A quiet]

theorem gathers_inv : gathers.Inv where
  part := partInv_of _ (by decide +kernel) (by decide +kernel) (by decide +kernel) (by decide +kernel) (by decide +kernel)
    (by decide +kernel)
  units := unitInv_of _ rfl (by decide +kernel) (by decide +kernel) (by decide +kernel)
  fetches := fetchInv_of _ (by decide +kernel) (by decide +kernel)
  pool := ⟨by decide +kernel, by decide +kernel, by decide +kernel, by decide +kernel, by decide +kernel,
    by decide +kernel, by decide +kernel, by decide +kernel, by decide +kernel⟩
  rings := ringInv_of _ (by unfold StatusRing.IndexInv; decide +kernel) (by decide +kernel) (by decide +kernel)
  offers := offerInv_of _ (by decide +kernel)

/-- RUNNING parts with no offer standing, and parts before they run. -/
theorem base_offers : base.OfferInv := offerInv_of _ (by decide +kernel)
theorem linked_offers : linked.OfferInv := offerInv_of _ (by decide +kernel)
theorem reset_offers : State.reset.OfferInv := offerInv_of _ (by decide +kernel)

theorem witness_StepKeepsInv : gathers.Inv ∧ ∃ t, step gathers = .next t :=
  ⟨gathers_inv, next_of (by decide +kernel)⟩

theorem witness_LinkEventFrame :
    (base.AtRest 0 ∧ linked.AtRest 3 ∧ State.reset.partState ≠ .running) ∧
    (∀ r, base.hasPlace r = true → base.nextProducer r = none) ∧ gathers.PoolInv ∧ (gathers.link 0).offers = [] :=
  ⟨by unfold State.AtRest; decide +kernel, base_offers.settled, gathers_inv.pool, rfl⟩

theorem witness_HeldPartIgnores :
    { linked with resetHeld := true }.resetHeld = true ∧ Instr.run 1 ≠ .hardwareReset ∧ Instr.run 1 ≠ .resetRelease := by
  decide +kernel

theorem witness_SoftResetWaits :
    (starting.resetHeld = false ∧ (2 : Word).getLsbD 1 = true ∧ starting.partState ≠ .resetting ∧
      starting.anyBusy = true) ∧
    { starting with partState := .resetting }.partState = .resetting := by decide +kernel

theorem witness_SettleEndsInDormant :
    { starting with partState := .resetting }.partState = .resetting ∧
    linked.partState ≠ .resetting ∧ linked.anyBusy = false ∧ (0xFFFFFFFF : Word).getLsbD 1 = true := by decide +kernel

theorem witness_ControlWritten :
    base.OfferInv ∧
    ((2 : Word).getLsbD 1 = true ∧ starting.partState ≠ .resetting ∧ starting.anyBusy = true ∧ linked.anyBusy = false) ∧
    ((1 : Word).getLsbD 1 = false ∧ (1 : Word).getLsbD 0 = true ∧ State.reset.partState = .dormant ∧
      base.partState ≠ .dormant) ∧
    (0xFFFFFFFC : Word).getLsbD 1 = false ∧ (0xFFFFFFFC : Word).getLsbD 0 = false :=
  ⟨base_offers, by decide +kernel⟩

theorem witness_StartAddressWrites : base.resetHeld = false ∧ base.OfferInv ∧ State.reset.OfferInv :=
  ⟨rfl, base_offers, reset_offers⟩

theorem witness_IgnoredWrites :
    base.OfferInv ∧
    base.resetHeld = false ∧ (2 : Nat) ≠ 4 ∧
    ((0x1C : BitVec 5) ≠ 0x04 ∧ (0x1C : BitVec 5) ≠ 0x0C ∧ (0x1C : BitVec 5) ≠ 0x10 ∧ (0x1C : BitVec 5) ≠ 0x14 ∧
      (0x1C : BitVec 5) ≠ 0x18) ∧
    ((0xFFFFFFFC : Word).getLsbD 0 = false ∧ (0xFFFFFFFC : Word).getLsbD 1 = false) ∧
    State.reset.partState ≠ .running :=
  ⟨base_offers, by decide +kernel⟩

theorem witness_ReadableRegisters :
    { base with resetHeld := true }.resetHeld = true ∧ base.resetHeld = false ∧ (2 : Nat) ≠ 4 ∧
    (0x0A : BitVec 5).toNat % 4 ≠ 0 := by
  decide +kernel

/-- T0 with fetched count 4 of 8, at the end of the ring, its window filled. -/
def fetched4 : State := linked.modUnit 0 fun u => { u with head := 6, fetched := 2, tail := 3 }

theorem witness_TransferNotify :
    linked.OfferInv ∧
    (linked.resetHeld = false ∧ linked.partState = .running ∧ ((0 : Word).extractLsb' 24 4).toNat = ((0 : LinkId) : Nat) ∧
      ((0x03000000 : Word).extractLsb' 24 4).toNat = ((3 : LinkId) : Nat)) ∧
    (linked.unit 3).bound = false ∧ ((linked.unit 0).bound = true ∧ (linked.unit 0).size ≤ 8) ∧
    (1 < (fetched4.unit 0).size ∧ ringDist 8 6 1 < ringDist 8 6 2) ∧
    (2 < (fetched4.unit 0).size ∧ ¬ringDist 8 6 2 < ringDist 8 6 2) ∧
    ((linked.link 0).state = .running ∧ (linked.unit 0).fetchOutstanding = false ∧ (linked.unit 0).fetchedCount < 4 ∧
      (linked.unit 0).fetchedCount < { linked.unit 0 with tail := 7 }.posted ∧ (linked.unit 0).window = []) :=
  ⟨linked_offers, by decide +kernel⟩

theorem witness_ControlNotify :
    base.OfferInv ∧
    (base.resetHeld = false ∧ base.partState = .running ∧ ((0x08000008 : Word).extractLsb' 24 4).toNat = 8) ∧
    base.control.size ≤ ((0x08000008 : Word).extractLsb' 0 16).toNat ∧
    (7 < base.control.size ∧ ¬ringDist 8 0 7 < ringDist 8 0 0 ∧ base.control.state = .idle ∧ 0 < ringDist 8 0 7) ∧
    ((awaiting base).control.fetched = 1 ∧ ringDist 8 0 0 < ringDist 8 0 1) ∧
    (awaiting base).control.state ≠ .idle :=
  ⟨base_offers, by decide +kernel⟩

theorem witness_SelectorsRouted :
    State.reset.partState ≠ .running ∧ ((0x03000000 : Word).extractLsb' 24 4).toNat = ((3 : LinkId) : Nat) ∧
    ((0x08000000 : Word).extractLsb' 24 4).toNat = 8 ∧
    (4 ≤ ((0x04000000 : Word).extractLsb' 24 4).toNat ∧ ((0x04000000 : Word).extractLsb' 24 4).toNat ≠ 8) ∧
    (4 ≤ ((0x0F000000 : Word).extractLsb' 24 4).toNat ∧ ((0x0F000000 : Word).extractLsb' 24 4).toNat ≠ 8) := by
  decide +kernel

/-- S0 with 3 unreleased records and a message address. -/
def unread : State := base.modRing (.s 0) fun x => { x with tail := 3, unreleased := 3, msgAddr := 0x7000 }

theorem witness_ReleaseTaken :
    unread.OfferInv ∧
    (unread.resetHeld = false ∧ unread.partState = .running ∧ ((3 : Word).extractLsb' 24 4).toNat = ((0 : LinkId) : Nat) ∧
      ((0x08000000 : Word).extractLsb' 24 4).toNat = 8) ∧
    ((base.ring (.s 1)).state = .absent ∧ (unread.ring (.s 0)).size ≤ 16 ∧ ringDist 16 0 3 < ringDist 16 0 4) ∧
    ((unread.ring (.s 0)).state = .active ∧ (unread.ring (.s 0)).msgAddr ≠ 0 ∧ ¬ringDist 16 0 3 < ringDist 16 0 3 ∧
      3 - min (ringDist 16 0 2) 3 = 1 ∧ 3 - min (ringDist 16 0 3) 3 = 0) ∧
    (base.ring (.s 0)).msgAddr = 0 :=
  ⟨offerInv_of _ (by decide +kernel), by decide +kernel⟩

theorem witness_ErrorLogTakes :
    base.errorLog.first = none ∧ State.reset.partState ≠ .running ∧ base.partState = .running ∧
    (base.logEvent (unsolicited 0)).errorLog.first ≠ none := by decide +kernel

theorem witness_StartRecordTaken :
    starting.OfferInv ∧
    starting.Holds .read 0 .startRecord ∧ starting.partState = .starting ∧ leField (startRecord 1) 0 1 = 1 ∧
    leField (startRecord 1) 4 2 = 2 ^ 3 ∧ leField (startRecord 1) 8 8 = 0x1000 ∧ leField (startRecord 1) 6 2 = 2 ^ 4 ∧
    leField (startRecord 1) 16 8 = 0x2000 ∧ leField (startRecord 1) 24 8 = 0 ∧ leField (startRecord 1) 36 1 = 1 :=
  ⟨offerInv_of _ (by decide +kernel), by unfold State.Holds; decide +kernel⟩

/-- A start record with the largest rings at the end of memory, the last message address and count. -/
def lastRecord : Vector Byte 64 :=
  bytes [(0, 1), (5, 1), (7, 4), (9, 0xE0), (10, 0xFF), (11, 0xFF), (12, 0xFF), (13, 0xFF), (17, 0xC0), (18, 0xFF),
    (19, 0xFF), (20, 0xFF), (21, 0xFF), (24, 0xFC), (25, 0xFF), (26, 0xFF), (27, 0xFF), (28, 0xFF), (29, 0xFF), (36, 32)]

theorem witness_StartRecordTaken_last :
    leField lastRecord 0 1 = 1 ∧ leField lastRecord 4 2 = 2 ^ 8 ∧ leField lastRecord 8 8 % 64 = 0 ∧
    leField lastRecord 8 8 + 32 * 2 ^ 8 = 2 ^ 48 ∧ leField lastRecord 6 2 = 2 ^ 10 ∧
    leField lastRecord 16 8 % 64 = 0 ∧ leField lastRecord 16 8 + 16 * 2 ^ 10 = 2 ^ 48 ∧
    leField lastRecord 24 8 % 4 = 0 ∧ leField lastRecord 24 8 = 2 ^ 48 - 4 ∧ leField lastRecord 36 1 = 32 := by
  decide +kernel

/-- Each field of a start record just out of its range, the fields checked before it in range. -/
theorem witness_StartRecordRefused :
    let v := bytes [(0, 1), (4, 8), (6, 16), (36, 1)]
    let past := fun (k : Nat) => bytes [(0, 1), (4, 8), (6, 16), (k, 0x40), (k + 1, 0xFF), (k + 2, 0xFF), (k + 3, 0xFF),
      (k + 4, 0xFF), (k + 5, 0xFF)]
    starting.Holds .read 0 .startRecord ∧ starting.partState = .starting ∧ leField (startRecord 0) 0 1 ≠ 1 ∧
    (leField (bytes [(0, 1), (4, 4)]) 0 1 = 1 ∧ leField (bytes [(0, 1), (4, 4)]) 4 2 = 2 ^ 2) ∧
    (leField (bytes [(0, 1), (4, 8), (8, 63)]) 4 2 = 2 ^ 3 ∧ leField (bytes [(0, 1), (4, 8), (8, 63)]) 8 8 % 64 ≠ 0) ∧
    (leField (past 8) 8 8 % 64 = 0 ∧ 2 ^ 48 < leField (past 8) 8 8 + 32 * leField (past 8) 4 2) ∧
    (leField v 8 8 = 0 ∧ leField (bytes [(0, 1), (4, 8), (6, 8)]) 6 2 = 2 ^ 3) ∧
    (leField (past 16) 6 2 = 2 ^ 4 ∧ leField (past 16) 16 8 % 64 = 0 ∧
      2 ^ 48 < leField (past 16) 16 8 + 16 * leField (past 16) 6 2) ∧
    (leField (bytes [(24, 2)]) 24 8 % 4 ≠ 0 ∧ leField (bytes [(30, 1)]) 24 8 = 2 ^ 48) ∧
    (leField v 16 8 = 0 ∧ leField v 24 8 = 0 ∧ leField (bytes [(36, 33)]) 36 1 = 33 ∧ leField (bytes []) 36 1 = 0) ∧
    (starting.errorLog.first = none ∧ (starting.logEvent (unsolicited 0)).errorLog.first ≠ none) := by
  unfold State.Holds
  decide +kernel

/-- CommandFetchHalts, UnknownCommandAnswered, CapturesMade and the statements of the ten commands. -/
theorem witness_Awaits : (awaiting base).Awaits 0 ∧ (awaiting linked).Awaits 0 ∧ (awaiting held).Awaits 0 := by
  unfold State.Awaits State.Holds
  decide +kernel

/-- A command in EXECUTING, with nothing offered: SC has many places, two or one of them, its pointer on the control
processor or not, and the log is empty; or SC has none, or is not there. -/
theorem witness_ResultMade :
    let c := command [(0, 3), (1, 2)]
    let s (k : Nat) (p : Producer) := ((awaiting base).taken 0 c quiet).modRing .sc fun x =>
      { x with pending := List.replicate k record, pointer := p }
    (∀ k p, (k = 0 ∨ k = 6 ∨ k = 7 ∨ k = 8) → (p = .control ∨ p = .log) → (s k p).OfferInv ∧
      (s k p).partState = .running ∧ (s k p).control.state = .executing ∧ (s k p).control.current = some c ∧
      (s k p).control.fetched < (s k p).control.size ∧ (s k p).sc.state = .active ∧ (s k p).sc.pending.length = k ∧
      (s k p).sc.pointer = p ∧ (s k p).errorLog.first = none) ∧
    ((s 0 .log).modRing .sc fun _ => StatusRing.reset).sc.state ≠ .active := by
  intro c s
  refine ⟨?_, by decide +kernel⟩
  rintro k p (rfl | rfl | rfl | rfl) (rfl | rfl) <;> exact ⟨offerInv_of _ (by decide +kernel), by decide +kernel⟩

theorem witness_StatusRingCreated :
    let low := command [(0, 1), (1, 1), (4, 16), (6, 1)]
    let high := command [(0, 1), (1, 3), (5, 4), (6, 32), (9, 0xC0), (10, 0xFF), (11, 0xFF), (12, 0xFF), (13, 0xFF)]
    (leField low 1 1 = ((1 : LinkId) : Nat) ∧ (base.ring (.s 1)).state = .absent ∧ leField low 4 2 = 2 ^ 4 ∧
      leField low 8 8 = 0 ∧ leField low 16 8 = 0 ∧ leField low 6 1 = 1) ∧
    (leField high 4 2 = 2 ^ 10 ∧ leField high 8 8 % 64 = 0 ∧ leField high 8 8 + 16 * leField high 4 2 = 2 ^ 48 ∧
      leField high 6 1 = 32) ∧
    (base.ring (.s 0)).state ≠ .absent ∧ leField (command [(6, 33)]) 6 1 = 33 ∧
    4 ≤ leField (command [(1, 4)]) 1 1 := by decide +kernel

theorem witness_StatusRingDeleted :
    (base.ring (.s 1)).state = .absent ∧ (linked.ring (.s 0)).state ≠ .absent ∧
    ((linked.unit 0).bound = true ∧ (linked.unit 0).statusRing = some 0) ∧
    ∀ m, (base.unit m).bound = true → (base.unit m).statusRing ≠ some 0 := by decide +kernel

theorem witness_LinkConfigured :
    (leField (configure 2) 1 1 = ((2 : LinkId) : Nat) ∧ (base.link 2).state = .unconfigured ∧
      leField (configure 2) 4 1 = 1 ∧ leField (configure 2) 5 1 = 1 ∧ leField (configure 2) 14 1 = 8 ∧
      leField (configure 2) 13 1 = 1 ∧ base.otherShortfalls 2 + 1 ≤ base.freeLines.length) ∧
    (linked.link 0).state = .running ∧
    ((held.link 0).state = .held ∧ keepsModes (held.link 0) (configure 0) = true ∧ 1 ≤ leField (configure 0) 6 1 ∧
      1 ≤ leField (configure 0) 7 1 ∧ 1 ≤ leField (configure 0) 9 1) := by decide +kernel

/-- The refusals of CONFIGURE LINK: in HELD a depth that differs and a setup time of 0; elsewhere a ceiling of 17, a
handshake of 4, and a reserve of 4 beside three others of 4 with 15 lines FREE. -/
theorem witness_LinkConfigured_refused :
    let c := fun (depth setup : Byte) =>
      command [(0, 3), (4, 1), (5, 1), (6, setup), (7, 2), (8, 3), (9, 4), (10, 5), (13, 1), (14, 8), (15, depth), (17, 1)]
    let others : Link := { Link.reset with config := { config with reserve := 4 } }
    let crowded : State := { base.modLine 0 fun x => { x with state := .ready } with
      links := (Vector.replicate 4 others).set 0 Link.reset }
    ((held.link 0).state = .held ∧ leField (c 5 1) 15 1 ≠ (held.link 0).config.depth) ∧
    (leField (c 4 0) 15 1 = (held.link 0).config.depth ∧ leField (c 4 0) 4 1 = 1 ∧ leField (c 4 0) 5 1 = 1 ∧
      leField (c 4 0) 12 1 % 2 = 0 ∧ leField (c 4 0) 13 1 = 1 ∧ leField (c 4 0) 14 1 = 8 ∧ leField (c 4 0) 16 1 = 0 ∧
      leField (c 4 0) 17 1 = 1 ∧ ¬1 ≤ leField (c 4 0) 6 1) ∧
    ((base.link 0).state = .unconfigured ∧ ¬leField (command [(14, 17)]) 14 1 ≤ 16 ∧
      ¬leField (command [(4, 4)]) 4 1 ≤ 3) ∧
    ((crowded.link 0).state = .unconfigured ∧ (crowded.link 0).config.reserve < 4 ∧
      ¬crowded.otherShortfalls 0 + 4 ≤ crowded.freeLines.length) := by decide +kernel

/-- The largest values that CONFIGURE LINK takes. -/
theorem witness_LinkConfigured_last :
    let c := command [(4, 3), (5, 1), (6, 255), (7, 255), (9, 255), (13, 4), (14, 16), (15, 8), (16, 1), (17, 1)]
    leField c 4 1 = 3 ∧ leField c 13 1 = 4 ∧ leField c 14 1 = 16 ∧ leField c 15 1 = 8 ∧
    base.otherShortfalls 0 + leField c 13 1 ≤ base.freeLines.length := by decide +kernel

/-- Link 1 STOPPED. -/
def stopped : State := base.modLink 1 fun l => { l with state := .stopped, config := config }

theorem witness_TransferRingCreated :
    (leField createRing 1 1 = ((1 : LinkId) : Nat) ∧ (stopped.link 1).state = .stopped ∧
      leField createRing 4 2 = 2 ^ 3 ∧ leField createRing 8 8 = 0x4000 ∧ leField createRing 6 1 = ((0 : LinkId) : Nat) ∧
      (stopped.ring (.s 0)).state = .active) ∧
    (stopped.ring (.s 3)).state ≠ .active ∧ (linked.link 0).state ≠ .stopped ∧
    ¬leField (command [(6, 4)]) 6 1 < 4 := by decide +kernel

/-- TransferRingDeleted and LinkAborted: nothing is under way at link 0, outbound, inbound, and HELD after an error
whose record has been answered; or a byte and a RECEIVE are; or it is HOLDING. -/
theorem witness_nothing_under_way :
    let inbound := linked.modLink 0 fun l => { l with dir := .inbound }
    ((linked.link 0).state = .running ∧ (linked.unit 0).window = [] ∧ (linked.unit 0).fetchOutstanding = false ∧
      (linked.link 0).lines = [] ∧ (linked.link 0).phase = .none ∧ (linked.link 0).turnTimer = none ∧
      (linked.link 0).offers = [] ∧ (linked.link 0).dir = .outbound) ∧
    ((inbound.link 0).state = .running ∧ (inbound.unit 0).window = [] ∧ (inbound.link 0).dir = .inbound) ∧
    ((held.link 0).state = .held ∧ (held.link 0).holdRecord = .done ∧ (held.unit 0).window.map (·.exec) = [.failed] ∧
      (held.unit 0).fetchOutstanding = false ∧ (held.link 0).lines = [] ∧ (held.link 0).phase = .none ∧
      (held.link 0).turnTimer = none ∧ (held.link 0).offers = []) ∧
    (((sending .strobe).link 0).state = .running ∧ ((receiving 48 2).link 0).state = .running) ∧
    ((linked.modLink 0 fun l => { l with state := .holding }).link 0).state = .holding ∧
    ((stopped.link 1).state = .stopped ∧ (stopped.link 1).state ≠ .running ∧ (stopped.link 1).state ≠ .held) ∧
    (base.link 0).state = .unconfigured := by decide +kernel

/-- TransferRingDeleted and LinkAborted: an unstarted copy in front; and a CURRENT SEND with no byte under way and a
CURRENT SIGNAL. -/
theorem witness_windows_cancelled :
    (((windowed (copyOf .send .fillingAhead) id).unit 0).window.length = 2 ∧
      (copyOf .send .fillingAhead).unstarted = true ∧ (copyOf .send .waiting).unstarted = true ∧
      ((windowed (copyOf .send .waiting) id).link 0).offers = [] ∧
      ((windowed (copyOf .send .waiting) id).link 0).state = .running ∧
      ((windowed (copyOf .send .waiting) id).unit 0).statusRing = some 0 ∧
      ((windowed (copyOf .send .waiting) id).ring (.s 0)).state ≠ .failed) ∧
    (((sending .none).unit 0).window = [copyOf .send .current] ∧ (copyOf .send .current).kind = some .send ∧
      ((sending .none).link 0).phase = .none ∧ ((sending .none).link 0).offers = [] ∧
      ((sending .none).link 0).state = .running) ∧
    ((pulsing.unit 0).window = [copyOf .signal .current] ∧ (copyOf .signal .current).kind = some .signal ∧
      (pulsing.link 0).offers = [] ∧ (pulsing.link 0).state = .running) ∧
    ((windowed (copyOf .send .waiting) fun l => { l with state := .holding }).link 0).state = .holding ∧
    ((windowed (copyOf .send .waiting) fun l => { l with state := .held }).link 0).state = .held := by decide +kernel

/-- Link 0 changed, the record of the front of its window the next that S0 accepts; one copy in the window, or two. -/
def cancelling (two : Bool) (f : Link → Link) : State :=
  let s := if two then windowed (copyOf .send .waiting) f else onLink (copyOf .send .waiting) f
  s.modLink 0 fun l => { l with offers := [{ purpose := .retire, record := record }] }

theorem cancelsFront_of (s : State) (o : Offer) (c : Copy) (cs : List Copy)
    (h : s.partState = .running ∧ (s.unit 0).window = c :: cs ∧
      ((s.link 0).offers = [o] ∧ o.purpose = .retire) ∧
      ((s.link 0).lines = [] ∧ (s.link 0).phase = .none ∧ (s.link 0).turnTimer = none ∧
        (s.unit 0).fetchOutstanding = false) ∧
      (s.unit 0).statusRing = some 0 ∧ (s.ring (.s 0)).state = .active ∧ (s.ring (.s 0)).pending.length < 8 ∧
      s.nextProducer (.s 0) = some (.link 0)) : s.CancelsFront 0 0 o c cs :=
  ⟨h.1, h.2.1, h.2.2.1, h.2.2.2.1, h.2.2.2.2⟩

/-- TransferRingDeleted, LinkAborted and LinkResumed: the record of the front copy is accepted, with a copy behind it or
without, in a deletion, an abort or a flush, outbound or inbound, and with the status ring lost meanwhile or not. -/
theorem witness_CancelsFront :
    let quiesces (x : Cancellation) (d : Direction) (l : Link) : Link :=
      { l with state := .quiescing, cancellation := x, snapshot := some 2, dir := d }
    let flushes (x : HoldCause) (l : Link) : Link := { l with state := .held, cancellation := .flush, holdCause := some x }
    let o : Offer := { purpose := .retire, record := record }
    let a := copyOf .send .waiting
    let b : Copy := { copyOf .receive .waiting with slot := 1 }
    (∀ x d, x ∈ [Cancellation.delete, .abort] → d ∈ [Direction.outbound, .inbound] →
      (cancelling true (quiesces x d)).CancelsFront 0 0 o a [b] ∧
      (cancelling false (quiesces x d)).CancelsFront 0 0 o a [] ∧
      ((cancelling false (quiesces x d)).link 0).state = .quiescing ∧
      ((cancelling false (quiesces x d)).link 0).cancellation = x ∧
      ((cancelling false (quiesces x d)).link 0).dir = d ∧
      ((cancelling false (quiesces x d)).link 0).snapshot = some 2) ∧
    (∀ x, x ∈ [HoldCause.error, .pause, .statusLost] →
      (cancelling true (flushes x)).CancelsFront 0 0 o a [b] ∧ (cancelling false (flushes x)).CancelsFront 0 0 o a [] ∧
      ((cancelling false (flushes x)).link 0).state = .held ∧
      ((cancelling false (flushes x)).link 0).cancellation = .flush ∧
      ((cancelling false (flushes x)).link 0).holdCause = some x) ∧
    b.unstarted = true := by
  intro quiesces flushes o a b
  refine ⟨?_, ?_, rfl⟩
  · intro x d hx hd
    simp only [List.mem_cons, List.not_mem_nil, or_false] at hx hd
    rcases hx with rfl | rfl <;> rcases hd with rfl | rfl <;>
      exact ⟨cancelsFront_of _ _ _ _ (by decide +kernel), cancelsFront_of _ _ _ _ (by decide +kernel), by decide +kernel⟩
  · intro x hx
    simp only [List.mem_cons, List.not_mem_nil, or_false] at hx
    rcases hx with rfl | rfl | rfl <;>
      exact ⟨cancelsFront_of _ _ _ _ (by decide +kernel), cancelsFront_of _ _ _ _ (by decide +kernel), by decide +kernel⟩

theorem witness_LinkResumed :
    let lost := held.modLink 0 fun l => { l with holdCause := some .statusLost }
    let more := held.modUnit 0 fun u => { u with window := u.window ++ [{ copyOf .send .waiting with slot := 1 }] }
    let paused := linked.modLink 0 fun l => { l with state := .held, holdCause := some .pause }
    ((held.link 0).state = .held ∧ (held.link 0).holdCause ≠ some .statusLost ∧
      leField (command [(0, 6), (4, 1)]) 4 1 = 1 ∧ leField (command [(0, 6), (4, 2)]) 4 1 = 2 ∧
      leField (command [(0, 6), (4, 3)]) 4 1 = 3) ∧
    (linked.link 0).state ≠ .held ∧ (lost.link 0).holdCause = some .statusLost ∧
    ((held.link 0).offers = [] ∧ (held.unit 0).fetchOutstanding = false ∧ (held.link 0).heldCopy.isSome ∧
      (held.unit 0).window.tail = [] ∧ (more.unit 0).window.tail = [{ copyOf .send .waiting with slot := 1 }] ∧
      (more.link 0).offers = [] ∧ (more.unit 0).statusRing = some 0 ∧ (more.ring (.s 0)).state ≠ .failed) ∧
    ((paused.link 0).heldCopy = none ∧ (paused.unit 0).window = [] ∧ (paused.link 0).offers = []) ∧
    leField (command [(0, 6)]) 4 1 = 0 ∧ 3 < leField (command [(0, 6), (4, 4)]) 4 1 := by decide +kernel

theorem witness_LinesSet :
    (base.link 0).state = .unconfigured ∧ (linked.link 0).state ≠ .unconfigured ∧
    2 < leField (command [(0, 8), (5, 3)]) 5 1 ∧
    (leField (command [(0, 8), (4, 2)]) 4 1 = 2 ∧ leField (command [(0, 8), (4, 2)]) 5 1 = 0) := by decide +kernel

theorem witness_CapturesMade :
    (awaiting linked).OfferInv ∧
    let last (x : Byte) := command [(8, x), (9, 0xFF), (10, 0xFF), (11, 0xFF), (12, 0xFF), (13, 0xFF)]
    (leField (last 0x80) 8 8 % 64 = 0 ∧ leField (last 0x80) 8 8 + 128 = 2 ^ 48) ∧
    (leField (last 0xC0) 8 8 % 64 = 0 ∧ 2 ^ 48 < leField (last 0xC0) 8 8 + 128 ∧ leField (last 0xC0) 8 8 + 32 ≤ 2 ^ 48) ∧
    2 ^ 48 < leField (last 0xE1) 8 8 + 32 :=
  ⟨offerInv_of _ (by decide +kernel), by decide +kernel⟩

theorem witness_ControlWritesEnd :
    (counted.modControl fun x => { x with write0 := .issued }).OfferInv ∧
    let first := counted.modIdent .write 0 fun x => { x with route := some (.counters false) }
    let early := counted.modControl fun x => { x with write0 := .issued }
    (counted.Holds .write 0 (.counters true) ∧ counted.partState = .running ∧ counted.control.state = .executing ∧
      counted.control.failure = none ∧ counted.control.write0 = .ended ∧
      counted.control.current = some (command [(0, 9), (4, 1), (9, 0x90)]) ∧
      leField (command [(0, 9), (4, 1), (9, 0x90)]) 4 1 % 2 = 1) ∧
    (first.Holds .write 0 (.counters false) ∧ first.control.write1 ≠ .ended ∧
      (first.modControl fun x => { x with write1 := .ended }).control.write1 = .ended) ∧
    (early.Holds .write 0 (.counters true) ∧ early.control.write0 ≠ .ended) ∧
    (counted.modControl (Control.noteFailure · .memoryTimeout)).control.failure = some .memoryTimeout ∧
    (holding counted .write .log).Holds .write 0 .log :=
  ⟨offerInv_of _ (by decide +kernel), by unfold State.Holds; decide +kernel⟩

theorem witness_DescriptorsArrive :
    let s := holding linked .read (.descriptor 0 6 2)
    (s.Holds .read 0 (.descriptor 0 6 2) ∧ s.partState = .running) ∧ { s with partState := .halted }.partState = .halted := by
  unfold State.Holds
  decide +kernel

theorem witness_DescriptorFetchFails :
    let s := holding linked .read (.descriptor 0 7 1)
    s.Holds .read 0 (.descriptor 0 7 1) ∧ (s.link 0).state ≠ .quiescing ∧
    ((s.modLink 0 fun l => { l with state := .quiescing }).link 0).state = .quiescing := by
  unfold State.Holds
  decide +kernel

/-- A re-read whose copy has left the window: its reread over, the window empty, or another copy in front; and one that
ends in QUIESCING. -/
theorem witness_RereadEnds_dropped :
    let s := holding (held.modUnit 0 fun u => { u with reread := .outstanding }) .read (.reread 0 0)
    let gone := s.modUnit 0 fun u => { u with window := [], reread := .none }
    let other := s.modUnit 0 fun u => { u with window := [{ copyOf .send .waiting with slot := 1 }] }
    s.Holds .read 0 (.reread 0 0) ∧ ReadEnd.error ≠ .timeout ∧
    ((s.modLink 0 fun l => { l with state := .quiescing }).link 0).state = .quiescing ∧
    (gone.unit 0).reread ≠ .outstanding ∧ (gone.unit 0).window.head? = none ∧
    (other.unit 0).window.head?.map (·.slot) = some 1 ∧
    (s.link 0).state = .held := by
  unfold State.Holds
  decide +kernel

theorem witness_RereadEnds :
    let s := holding (held.modUnit 0 fun u => { u with reread := .outstanding }) .read (.reread 0 0)
    s.Holds .read 0 (.reread 0 0) ∧ s.partState = .running ∧ (s.unit 0).reread = .outstanding ∧
    (∃ c, (s.unit 0).window = c :: [] ∧ c.exec = .failed ∧ c.slot = 0) ∧ (s.link 0).state ≠ .quiescing ∧
    ((s.modLink 0 Link.running).link 0).state = .running := by
  unfold State.Holds
  refine ⟨by decide +kernel, by decide +kernel, by decide +kernel, ⟨_, rfl, by decide +kernel, by decide +kernel⟩, ?_, ?_⟩ <;>
    decide +kernel

theorem witness_TableReadEnds :
    (tabled.modSegWindow 0 .fill SegWindow.emptied).OfferInv ∧
    tabled.Holds .read 0 (.table 0 .fill 0 2) ∧ tabled.partState = .running ∧ (tabled.cursorDesc 0 .fill).isSome ∧
    (tabled.segWindow 0 .fill).read = .live ∧
    ((tabled.modSegWindow 0 .fill SegWindow.emptied).segWindow 0 .fill).read ≠ .live ∧
    SegWindow.reset.mismatch = none :=
  ⟨offerInv_of _ (by decide +kernel), by unfold State.Holds; decide +kernel⟩

/-- The clauses of R27 over one entry of a table of 2 entries and 100 bytes, at their limits. -/
theorem witness_TableReadEnds_entries :
    let d := { descriptor .send with form := some .table, len0 := 2 }
    (d.byteCount < 0 + 101 ∧ 65536 < 65537 ∧ 2 ^ 48 < (2 ^ 48 - 1) + 2) ∧
    (1 + 1 = d.entryCount ∧ 60 + 39 < d.byteCount ∧ ¬d.byteCount < 60 + 39) ∧
    (0 + 1 ≠ d.entryCount ∧ 0 + 100 = d.byteCount) ∧ (1 + 1 = d.entryCount ∧ 60 + 40 = d.byteCount) ∧
    (0 + 1 ≠ d.entryCount ∧ 0 + 99 ≠ d.byteCount) := by decide +kernel

theorem witness_FillEnds :
    (filling .filling).Holds .read 0 (.fill 0) ∧ (filling .filling).partState = .running ∧
    ((filling .filling).line 0).owner = some 0 ∧ ((filling .filling).line 0).state = .filling ∧
    (((filling .filling).unit 0).current = some (copyOf .send .current) ∧ ((filling .filling).link 0).state = .running ∧
      ((filling .filling).link 0).sub = .sending ∧ ((filling .filling).link 0).dir = .outbound ∧
      ((filling .filling).link 0).phase = .none ∧ ((filling .filling).link 0).lines = 0 :: [] ∧
      ((filling .filling).line 0).descSlot = (copyOf .send .current).slot ∧
      ((filling .filling).unit 0).statusRing = some 0 ∧ ((filling .filling).ring (.s 0)).state ≠ .failed) := by
  unfold State.Holds
  decide +kernel

theorem witness_DiscardedFillEnds :
    (filling .discardPending).Holds .read 0 (.fill 0) ∧ ReadEnd.error ≠ .timeout ∧
    ((filling .discardPending).line 0).owner = some 0 ∧ ((filling .discardPending).line 0).state = .discardPending ∧
    (filling .discardPending).partState = .running := by
  unfold State.Holds
  decide +kernel

theorem witness_StoreEnds :
    storing.Holds .write 0 (.store 0) ∧ storing.partState = .running ∧ (storing.line 0).owner = some 0 ∧
    (storing.line 0).state = .storing ∧ ((storing.unit 0).current).isSome ∧ (storing.link 0).state = .running ∧
    ((storing.unit 0).window = [copyOf .receive .current] ∧ (copyOf .receive .current).quiet = false ∧
      (storing.link 0).holdCause = none ∧ (storing.link 0).dir = .inbound ∧ (storing.link 0).sub = .receiving ∧
      (storing.link 0).gathering = false ∧ (storing.link 0).endCause = .attn ∧
      (storing.unit 0).storeWindow.mismatch = none ∧ (storing.link 0).lines = [0] ∧ (storing.link 0).offers = [] ∧
      (storing.unit 0).statusRing = some 0 ∧ (storing.ring (.s 0)).state ≠ .failed) ∧
    ((storing.modLink 0 fun l => { l with endCause := .count }).link 0).endCause = .count ∧
    ∀ j, j ∈ (storing.link 0).lines → ¬((storing.line j).state = .gathering ∨ (storing.line j).state = .sealed) := by
  unfold State.Holds
  decide +kernel

theorem witness_StatusWriteEnds :
    written.OfferInv ∧
    (written.Holds .write 0 (.status (.s 0) 0 true) ∧ written.partState = .running) ∧
    ((written.ring (.s 0)).msgAddr ≠ 0 ∧ (written.ring (.s 0)).intState = .armed ∧ 1 < (written.ring (.s 0)).modCount) ∧
    ((base.ring (.s 0)).msgAddr = 0 ∧ (base.ring (.s 0)).modCount ≤ 1) ∧
    (let x := (written.modRing (.s 0) fun x => { x with intState := .moderating, written := 1 }).ring (.s 0)
     x.intState = .moderating ∧ x.modCount ≤ x.written + 1 ∧ x.written < x.modCount) :=
  ⟨offerInv_of _ (by decide +kernel), by unfold State.Holds; decide +kernel⟩

theorem witness_StatusWriteHalts :
    (holding base .write (.status .sc 15 true)).Holds .write 0 (.status .sc 15 true) ∧
    (holding base .write (.status .sc 15 true)).partState = .running := by
  unfold State.Holds
  decide +kernel

/-- S0 with a status write outstanding, and link 0, alone reporting to it, with a standing offer, in a state. -/
def losing (x : LinkState) (p : Purpose) : State :=
  holding (offering.modLink 0 fun l =>
    { l with state := x, heldCopy := if x = .holding then some 0 else none, holdRecord := .offered,
             offers := [{ purpose := p, record := record }] }) .write (.status (.s 0) 0 true)

/-- No link reports to S0; or link 0 does, RUNNING and settled with a COMPLETION or an ATTENTION record standing,
HOLDING, or HELD; or its held copy's record stands in HOLDING. -/
theorem witness_StatusRingFails :
    (∀ m, (written.unit m).statusRing ≠ some 0) ∧
    ((losing .running .retire).Holds .write 0 (.status (.s 0) 0 true) ∧ (losing .running .retire).partState = .running ∧
      (∀ j, ((losing .running .retire).unit j).statusRing = some 0 ↔ j = 0) ∧
      ((losing .running .retire).link 0).state = .running ∧ ((losing .running .retire).link 0).offers ≠ [] ∧
      ((losing .running .retire).link 0).lines = [] ∧ ((losing .running .retire).link 0).phase = .none ∧
      ((losing .running .retire).link 0).cancellation = .none ∧
      ((losing .running .retire).unit 0).window.map (fun c => (c.exec, c.quiet)) = [(.doneUnretired, false)]) ∧
    (((losing .running .attention).modUnit 0 fun u => { u with window := [] }).unit 0).window = [] ∧
    (((losing .holding .attention).link 0).state = .holding ∧ ((losing .held .pause).link 0).state = .held ∧
      ((losing .held .pause).link 0).cancellation ≠ .flush) ∧
    (let s := (losing .holding .holdRecord).modUnit 0 fun u => { u with window := [copyOf .send .failed] }
     (s.link 0).state = .holding ∧ (s.link 0).offers.map (·.purpose) = [.holdRecord] ∧
      (s.link 0).holdRecord = .offered ∧ (s.link 0).lines = [] ∧ (s.link 0).phase = .none ∧
      (s.unit 0).window = [copyOf .send .failed] ∧ (s.link 0).heldCopy = some (copyOf .send .failed).slot) := by
  unfold State.Holds
  decide +kernel

/-- Links 0 and 1 report to S0 with a record standing, in each of the three states; link 3 reports to no ring. -/
theorem witness_StatusRingFails_links :
    ∀ x, x ∈ [LinkState.running, .holding, .held] →
      let s := ((losing x .attention).modUnit 1 fun _ => (losing x .attention).unit 0).modLink 1 fun _ =>
        (losing x .attention).link 0
      s.Holds .write 0 (.status (.s 0) 0 true) ∧ s.partState = .running ∧
      (∀ m, m < 2 → (s.unit m).statusRing = some 0 ∧ (s.link m).offers ≠ [] ∧ (s.link m).cancellation = .none ∧
        (s.link m).state = x) ∧ (s.unit 3).statusRing ≠ some 0 := by
  unfold State.Holds
  decide +kernel

theorem witness_StatusRingFails_pool : (losing .running .attention).PoolInv :=
  ⟨by decide +kernel, by decide +kernel, by decide +kernel, by decide +kernel, by decide +kernel,
    by decide +kernel, by decide +kernel, by decide +kernel, by decide +kernel⟩

theorem witness_MessagesEnd :
    (holding base .write (.message .sc true)).OfferInv ∧
    (base.modRing .sc fun x => { x with intState := .moderating, modTimer := some 1 }).OfferInv ∧
    (holding base .write (.message .sc true)).Holds .write 0 (.message .sc true) ∧
    (let x := (base.modRing .sc fun x => { x with intState := .moderating, modTimer := some 1 }).ring .sc
     x.intState = .moderating ∧ x.modTimer ≠ none) :=
  ⟨offerInv_of _ (by decide +kernel), offerInv_of _ (by decide +kernel), by unfold State.Holds; decide +kernel⟩

/-- A part without the last FREE slot of eight, and with all others STALE. -/
def lastSlot : State :=
  holding { base with writeSlots := base.writeSlots.map fun x => { x with state := .stale } } .write .log

/-- The part in RESETTING, as far as its settle wait goes. -/
def resetting (s : State) : State := { s with partState := .resetting, settleTimer := some 10 }

/-- Ends and timeouts in RESETTING: of what alone is BUSY, beside another tag, and of the last slot. -/
theorem witness_SettleEndsInDormant_ends :
    let one := resetting (holding base .write .log)
    let two := resetting (holding (holding base .write .log) .read .command)
    (one.resetHeld = false ∧ one.partState = .resetting ∧ (one.ident .write 0).state = .busy ∧
      memoryEnd (.errorLogWriteEnd 0 .done quiet) = some (.write, 0, false, quiet) ∧
      (one.freed .write 0 quiet).anyBusy = false) ∧
    (memoryEnd (.readCounters 0 (command []) quiet) = some (.read, 0, false, quiet) ∧
      (two.ident .read 0).state = .busy ∧ (two.freed .read 0 quiet).anyBusy = true) ∧
    (∀ l, (two.ident .read 0).route ≠ some (.fill l)) ∧
    (memoryEnd (.responseTimeout .write 0 quiet) = some (.write, 0, true, quiet) ∧ (one.ident .write 1).state ≠ .stale) ∧
    one.PartInv ∧ two.PartInv ∧ (resetting lastSlot).PartInv ∧
    ∀ j, j ≠ 0 → ((resetting lastSlot).ident .write j).state = .stale := by
  refine ⟨by decide +kernel, by decide +kernel, by decide +kernel, by decide +kernel, ?_, ?_, ?_, by decide +kernel⟩ <;>
    exact partInv_of _ (by decide +kernel) (by decide +kernel) (by decide +kernel) (by decide +kernel)
      (by decide +kernel) (by decide +kernel)

theorem witness_ResponseTimesOut :
    ((holding base .write .log).PartInv ∧ (holding base .write .log).resetHeld = false ∧
      (holding base .write .log).partState ≠ .resetting ∧ ((holding base .write .log).ident .write 0).state = .busy) ∧
    (lastSlot.PartInv ∧ ∀ j, j ≠ 0 → (lastSlot.ident .write j).state = .stale) ∧
    ((filling .filling).ident .read 0).route = some (.fill 0) :=
  ⟨⟨partInv_of _ (by decide +kernel) (by decide +kernel) (by decide +kernel) (by decide +kernel) (by decide +kernel)
      (by decide +kernel), by decide +kernel, by decide +kernel, by decide +kernel⟩,
    ⟨partInv_of _ (by decide +kernel) (by decide +kernel) (by decide +kernel) (by decide +kernel) (by decide +kernel)
      (by decide +kernel), by decide +kernel⟩, by decide +kernel⟩

/-- The requesters of ResponseTimesOut, each with an identifier of its route. -/
theorem witness_ResponseTimesOut_requesters :
    let reread := held.modUnit 0 fun u => { u with reread := .outstanding }
    let executing := counted.control
    (∀ x, x ∈ [LineState.filling, .discardPending] → ((filling x).partState = .running ∧
      ((filling x).line 0).owner = some 0 ∧ ((filling x).line 0).state = x)) ∧
    (storing.partState = .running ∧ (storing.line 0).owner = some 0 ∧ (storing.line 0).state = .storing) ∧
    ((linked.link 0).state ≠ .quiescing ∧
      ((linked.modLink 0 fun l => { l with state := .quiescing }).link 0).state = .quiescing) ∧
    ((reread.unit 0).reread = .outstanding ∧ (reread.unit 0).window.map (fun c => (c.slot, c.exec)) = [(0, .failed)] ∧
      ((reread.modLink 0 Link.running).link 0).state = .running) ∧
    ((tabled.segWindow 0 .fill).read = .live ∧
      ((tabled.modSegWindow 0 .fill SegWindow.emptied).segWindow 0 .fill).read ≠ .live) ∧
    ((awaiting base).partState = .running ∧ (awaiting base).control.state = .fetching) ∧
    (executing.state = .executing ∧ executing.current.isSome ∧ executing.write0 = .ended ∧ executing.write1 ≠ .ended) ∧
    base.partState = .running := by decide +kernel

theorem witness_LateResponseFrees :
    (holding base .read .command).OfferInv ∧
    (base.ident .read 7).state = .free ∧ ((holding base .read .command).ident .read 0).state = .busy ∧
    ((base.modIdent .write 7 Ident.expire).ident .write 7).state = .stale :=
  ⟨offerInv_of _ (by decide +kernel), by decide +kernel⟩

/-- A fetch in class B, a status write in class A, a fill in class C; a record of a full list of SC, for
which a RESULT waits; and nothing to issue, or nothing to issue it on. -/
theorem witness_RequestIssued :
    base.OfferInv ∧
    let s := linked.modUnit 0 fun u => { u with tail := 5 }
    let a := base.modRing .sc fun x => { x with pending := [record], tail := 15, releasedHead := 5 }
    let fill := (sending .none).modLine 0 fun x => { x with state := .filling }
    let result := (base.modControl fun c => { c with resultOffer := some record, fetched := 1, tail := 1 }).modRing .sc
      fun x => { x with pending := List.replicate 8 record }
    ((s.sense quiet).lowestFree .read = some 0 ∧ ((s.sense quiet).nextRequest .read).map (·.cls) = some .b) ∧
    ((a.sense quiet).nextRequest .write).map (fun c => (c.cls, c.request.route)) = some (.a, .status .sc 15 true) ∧
    ((fill.sense quiet).nextRequest .read).map (fun c => (c.cls, c.request.route)) = some (.c, .fill 0) ∧
    (((result.sense quiet).nextRequest .write).map (·.request.route) = some (.status .sc 0 true) ∧
      result.sc.pending.length ≤ 8 ∧ result.nextProducer .sc = some .control ∧
      result.control.resultOffer = some record) ∧
    ((s.pointers.member .read, s.pointers.bRead) = (.ring (.s 3), .group) ∧
      ((a.modRing (.s 0) fun x => { x with pending := [record] }).sense quiet).nextMember .write =
        (a.memberRequest .write (.ring .sc)).map (Member.ring .sc, ·)) ∧
    base.nextRequest .read = none ∧
    { base with readTags := base.readTags.map Ident.expire }.lowestFree .read = none :=
  ⟨base_offers, by decide +kernel⟩

/-- Link 0 asks for a line: outbound, and inbound. -/
def asking (d : Direction) : State :=
  onLink (copyOf (if d = .outbound then .send else .receive) .current) fun l =>
    { l with dir := d, sub := if d = .outbound then .sending else .receiving, gathering := true,
             fillCursor := .inside 0 0 99, storeCursor := .inside 0 0 0 }

theorem witness_LineGranted :
    linked.OfferInv ∧
    ((asking .outbound).sense quiet).nextGrant = some 0 ∧ ((asking .inbound).sense quiet).nextGrant = some 0 ∧
    (asking .outbound).bytesLeft 0 .fill = some (0, 0, 99, 0x10010, 100) ∧
    (asking .inbound).bytesLeft 0 .store = some (0, 0, 0, 0x10010, 100) ∧
    ((asking .inbound).unit 0).descOf 0 = some (descriptor .receive) ∧ linked.nextGrant = none ∧
    (let s := { asking .outbound with grantPtr := 0 }
     (s.sense quiet).nextGrant = some 0 ∧ (3 : LinkId) - s.grantPtr - 1 < 0 - s.grantPtr - 1) :=
  ⟨linked_offers, by decide +kernel⟩

/-- The ways of the cursor in LineGranted: to the end of its descriptor, as in asking .outbound; inside a segment, in a
WAITING copy that a SEND runs ahead of; and into the next segment, known or a mismatch point. -/
theorem witness_LineGranted_cursor :
    let next := { copyOf .send .waiting with slot := 1 }
    let prefetch := (windowed (copyOf .send .current) fun l =>
      { l with sub := .sending, fillCursor := .inside 1 0 0 }).modUnit 0 fun u =>
        { u with window := [copyOf .send .current, next] }
    let table (mismatch : Option (Nat × Code)) : State :=
      let d := { descriptor .receive with form := some .table, len0 := if mismatch = none then 2 else 1 }
      ((asking .inbound).modUnit 0 fun u => u.modCopy 0 fun c => { c with desc := some d }).modSegWindow 0 .store
        fun w => { w with entries := [⟨0, 0x10010, 20⟩], mismatch := mismatch }
    ((asking .outbound).sense quiet).nextGrant = some 0 ∧ 99 + min (100 - 99) 45 = 100 ∧
      (descriptor .send).segmentCount = 1 ∧ ((asking .outbound).unit 0).fillWindow.mismatch = none ∧
    ((prefetch.sense quiet).nextGrant = some 0 ∧ prefetch.bytesLeft 0 .fill = some (1, 0, 0, 0x10010, 100) ∧
      (prefetch.unit 0).descOf 1 = some (descriptor .send) ∧ next.exec = .waiting ∧ 0 + min (100 - 0) 48 < 100) ∧
    ∀ m, m ∈ [none, some (1, Code.segmentMismatch)] →
      ((table m).sense quiet).nextGrant = some 0 ∧ (table m).bytesLeft 0 .store = some (0, 0, 0, 0x10010, 20) ∧
      (((table m).unit 0).descOf 0).map (·.entryCount) = some (if m = none then 2 else 1) ∧
      20 ≤ 0 + min (20 - 0) (64 - (0x10010 : Addr).toNat % 64) := by decide +kernel

/-- An offer of link 0 of a purpose that S0 takes next, the link in a state, with a front copy. -/
def offered (x : LinkState) (p : Purpose) (c : Copy) : State :=
  onLink c fun l =>
    { l with state := x, heldCopy := if x = .holding then some 0 else none, holdRecord := .offered,
             offers := [{ purpose := p, record := record }] }

/-- The producers in whose order OfferAccepted takes them, counted from a pointer. -/
def placesAfter (p q : Producer) : Nat :=
  let place (x : Producer) : Nat := match x with | .link n => n | .control => 4 | .log => 5
  (place q + 5 - place p) % 6

theorem witness_OfferAccepted :
    base.OfferInv ∧
    (offering.partState = .running ∧ (offering.ring (.s 0)).state = .active ∧
      (offering.ring (.s 0)).pending.length < 8 ∧ (offering.ring (.s 0)).pointer = .log ∧
      (offering.unit 0).statusRing = some 0 ∧ (offering.link 0).offers.map (·.record) = [record] ∧
      placesAfter .log (.link 0) = 0) ∧
    (let s := base.logEvent (unsolicited 0)
     s.notices.length = 1 ∧ s.sc.pointer = .log ∧ placesAfter .log .log = 5 ∧ s.control.resultOffer = none ∧
      ∀ n, (s.unit n).statusRing = none) ∧
    (let s := { base with control := { base.control with resultOffer := some record, fetched := 1, tail := 1 } }
     s.control.resultOffer = some record ∧ placesAfter .log .control = 4 ∧
      (s.control.tail + s.control.size - (s.control.head + 1) % s.control.size) % s.control.size = 0 ∧
      ({ s.control with tail := 0 }.tail + s.control.size - (s.control.head + 1) % s.control.size) % s.control.size = 7 ∧
      s.control.fetched < s.control.size ∧ s.issued .read .command = false) ∧
    (base.nextProducer (.s 0) = none ∧ (base.ring (.s 1)).state ≠ .active) :=
  ⟨base_offers, by decide +kernel⟩

/-- The offers of a link that OfferAccepted takes apart, by purpose, link state and front copy. -/
theorem witness_OfferAccepted_links :
    let failed := copyOf .send .failed
    let done := { copyOf .send .doneUnretired with outcome := some .ok }
    let pausing := { done with desc := some { descriptor .send with pauseAfter := true } }
    (∀ p : Purpose, p ∈ [.attention, .pause, .statusLost, .holdRecord, .retire] →
      ((offered .held p failed).sense quiet).nextProducer (.s 0) = some (.link 0) ∧
      ((offered .held p failed).link 0).offers.map (·.purpose) = [p] ∧
      ((offered .held p failed).link 0).state ≠ .quiescing) ∧
    (((offered .holding .holdRecord failed).link 0).state = .holding ∧
      ((offered .holding .holdRecord failed).link 0).holdRecord = .offered ∧
      ((offered .holding .holdRecord failed).link 0).lines = [] ∧
      ((offered .holding .holdRecord failed).link 0).phase = .none ∧
      ((offered .holding .holdRecord failed).unit 0).window = [failed] ∧
      ((offered .holding .holdRecord failed).link 0).heldCopy = some failed.slot) ∧
    ((offered .quiescing .holdRecord failed).link 0).state = .quiescing ∧
    (((offered .running .retire done).unit 0).window = [done] ∧ done.pauseAfter = false) ∧
    (((offered .running .retire pausing).link 0).state = .running ∧
      ((offered .running .retire pausing).unit 0).window = [pausing] ∧ pausing.pauseAfter = true ∧
      pausing.outcome = some .ok) := by decide +kernel

theorem witness_CopyStarts :
    let s := onLink (copyOf .send .waiting) id
    let c := { copyOf .send .waiting with verdict := .invalid .count }
    let inbound := onLink (copyOf .receive .waiting) fun l => { l with dir := .inbound }
    (s.resetHeld = false ∧ s.partState = .running ∧ (s.link 0).state = .running ∧ (s.link 0).sub = .idle ∧
      (s.link 0).turnTimer = none ∧ (s.unit 0).window = copyOf .send .waiting :: [] ∧
      (copyOf .send .waiting).bad = false ∧ (copyOf .send .waiting).kind = some .send ∧ (s.link 0).dir = .outbound ∧
      (s.link 0).lines = [] ∧ (s.link 0).fillCursor = .idle ∧ (s.link 0).config.faultStops = false ∧
      (s.link 0).offers = [] ∧ (s.link 0).phase = .none) ∧
    (((onLink c id).unit 0).window = c :: [] ∧ c.verdict = .invalid .count ∧ (base.link 0).state ≠ .running) ∧
    ((inbound.unit 0).window = copyOf .receive .waiting :: [] ∧ (copyOf .receive .waiting).bad = false ∧
      (inbound.link 0).dir = .inbound ∧ (inbound.link 0).lines = []) ∧
    (copyOf .receive .waiting).kind = some .receive := by decide +kernel

/-- Link 0 with a copy ahead in its window, of slot 0, and one in slot 1 behind it, both unstarted or ended as given. -/
def behind (a c : Copy) : State := onLink a id |>.modUnit 0 fun u =>
  { u with window := [a, { c with slot := 1 }], fetched := 2, tail := 2 }

/-- CopyStarts behind a copy: a SEND behind an ended SEND; and what does not start there, a copy of another kind, a bad
one, one behind a PAUSE_AFTER or another kind of copy; a turnaround that waits for its lines; and no copy to start. -/
theorem witness_CopyStarts_behind :
    let done := { copyOf .send .doneUnretired with outcome := some .ok, bytesDone := some 100 }
    let pausing := { done with desc := some { descriptor .send with pauseAfter := true } }
    (((behind done (copyOf .send .waiting)).unit 0).window = [done] ++ { copyOf .send .waiting with slot := 1 } :: [] ∧
      done.unstarted = false ∧ done.exec = .doneUnretired ∧ done.kind = some .send ∧ done.pauseAfter = false ∧
      done.slot ≠ 1 ∧ ((behind done (copyOf .send .waiting)).link 0).sub = .idle ∧
      ((behind done (copyOf .send .waiting)).link 0).fillCursor = .idle ∧
      ((behind done (copyOf .send .waiting)).link 0).config.faultStops = false) ∧
    (copyOf .signal .waiting).kind ≠ some .send ∧ (copyOf .receive .waiting).kind ≠ some .send ∧
    { copyOf .send .waiting with inlineMismatch := true }.bad = true ∧
    pausing.pauseAfter = true ∧ { done with exec := .failed }.exec ≠ .doneUnretired ∧
    (let s := (sending .none).modUnit 0 fun u => { u with window := [copyOf .receive .waiting] }
     (s.link 0).lines ≠ [] ∧ (s.link 0).dir = .outbound ∧ (copyOf .receive .waiting).bad = false ∧
      (copyOf .receive .waiting).unstarted = true) ∧
    ((copyOf .send .fillingAhead).unstarted = true ∧
      ((onLink (copyOf .send .waiting) fun l => { l with fillCursor := .inside 0 0 64 }).link 0).fillCursor =
        .inside (copyOf .send .waiting).slot 0 64) ∧
    (∀ x, x ∈ (linked.unit 0).window → x.unstarted = false) := by decide +kernel

/-- fault_stops set at link 0, and FAULT# low there. -/
def faultStops (s : State) : State :=
  (s.modLink 0 fun l => { l with config := { config with faultStops := true } }).modPin 0 fun p =>
    { p with fault := false }

/-- The levels with FAULT# low at every link. -/
def faulty : Levels := Vector.replicate 4 { quietPins with fault := false }

/-- CopyStarts and TurnaroundEnds with fault_stops set and FAULT# high. -/
theorem witness_fault_stops_high :
    let send := faultStops (onLink (copyOf .send .waiting) id)
    ((send.link 0).config.faultStops = true ∧ ((send.sense quiet).pin 0).fault = true) ∧
    (((faultStops turning).link 0).config.faultStops = true ∧ (((faultStops turning).sense quiet).pin 0).fault = true ∧
      ((faultStops turning).link 0).sub = .turning) := by decide +kernel

/-- CopyStarts, TurnaroundEnds and ByteTimersRunOut with fault_stops set and FAULT# low. -/
theorem witness_fault_stops :
    let send := faultStops (onLink (copyOf .send .waiting) id)
    let receive := faultStops (onLink (copyOf .receive .waiting) fun l => { l with dir := .inbound })
    let turns := faultStops (onLink (copyOf .send .waiting) fun l => { l.turn .outbound with sub := .turning })
    let last := faultStops ((sending .hold).modLine 0 fun x => { x with last := true, offset := 47 })
    ((send.link 0).config.faultStops = true ∧ ((send.sense faulty).pin 0).fault = false ∧
      (send.unit 0).window = copyOf .send .waiting :: [] ∧ (copyOf .send .waiting).bad = false ∧
      (send.link 0).dir = .outbound ∧ (send.link 0).sub = .idle ∧ (send.link 0).turnTimer = none) ∧
    ((receive.link 0).config.faultStops = true ∧ ((receive.sense faulty).pin 0).fault = false ∧
      (receive.unit 0).window = copyOf .receive .waiting :: [] ∧ (receive.link 0).dir = .inbound) ∧
    ((turns.link 0).config.faultStops = true ∧ ((turns.sense faulty).pin 0).fault = false ∧
      (turns.link 0).sub = .turning ∧ (turns.link 0).turnTimer ≠ none ∧
      ((faultStops turning).link 0).config.faultStops = true ∧
      (((faultStops turning).sense faulty).pin 0).fault = false ∧ ((faultStops turning).link 0).lines = [] ∧
      ((faultStops turning).link 0).dir = .inbound ∧ (faultStops turning).unit 0 = turning.unit 0) ∧
    ((last.link 0).config.faultStops = true ∧ ((last.sense faulty).pin 0).fault = false ∧ (last.link 0).phase = .hold ∧
      last.drainingLine 0 = some 0 ∧ (last.line 0).last = true ∧ (last.line 0).owner = some 0 ∧
      (last.unit 0).window = [copyOf .send .current]) := by decide +kernel

/-- The other ways of CopyStarts: UNREADABLE, an INLINE mismatch, a mismatch point of a table, and SIGNALs that pulse,
that wait for ATTN high, which stands low, and that wait for nothing. -/
theorem witness_CopyStarts_more :
    let s := (onLink (copyOf .send .waiting) fun l => { l with fillCursor := .inside 0 2 0 }).modSegWindow 0 .fill fun w =>
      { w with mismatch := some (2, .segmentMismatch) }
    let signal := onLink (copyOf .signal .waiting) id
    ((unreadableCopy 0 .timeout).verdict = .unreadable .timeout ∧ (unreadableCopy 0 .timeout).exec = .waiting) ∧
    ({ copyOf .send .waiting with inlineMismatch := true }.verdict = .valid) ∧
    ((s.link 0).fillCursor = .inside (copyOf .send .waiting).slot 2 0 ∧
      (s.unit 0).fillWindow.mismatch = some (2, .segmentMismatch) ∧ (descriptor .send).addr0.toNat + 16 * 2 < 2 ^ 48) ∧
    ((signal.unit 0).window = copyOf .signal .waiting :: [] ∧ (copyOf .signal .waiting).bad = false ∧
      (descriptor .signal).kind = some .signal ∧ (signal.link 0).restore0 = none ∧ (signal.link 0).restore1 = none) ∧
    ({ descriptor .signal with ctl1 := some .pulse }.ctl1 = some .pulse) ∧
    (levelMeets ((signal.sense quiet).pin 0) .attnHigh = false ∧ levelMeets ((signal.sense quiet).pin 0) .none = true) := by
  decide +kernel

theorem witness_TurnaroundEnds :
    let c := copyOf .receive .waiting
    let out := onLink (copyOf .send .waiting) fun l => { l.turn .outbound with sub := .turning }
    (turning.resetHeld = false ∧ turning.partState = .running ∧ (turning.link 0).turnTimer ≠ none ∧
      (turning.link 0).state = .running ∧ (turning.link 0).sub = .turning ∧ (turning.unit 0).window = c :: [] ∧
      c.bad = false ∧ c.kind = some .receive ∧ c.exec = .waiting ∧ (turning.link 0).config.faultStops = false ∧
      (turning.link 0).offers = [] ∧ (turning.link 0).lines = []) ∧
    ((out.link 0).turnTimer ≠ none ∧ (out.link 0).sub = .turning ∧ (out.unit 0).window = copyOf .send .waiting :: [] ∧
      (copyOf .send .waiting).kind = some .send ∧ (out.link 0).fillCursor = .idle ∧ (out.link 0).lines = []) ∧
    (let s := linked.modLink 0 fun l =>
       { l with state := .quiescing, cancellation := .delete, snapshot := some 0, turnTimer := some 4 }
     (s.link 0).state = .quiescing ∧ (s.link 0).cancellation = .delete ∧ (s.link 0).dir = .outbound ∧
      (s.link 0).lines = [] ∧ (s.link 0).phase = .none ∧ (s.unit 0).window = [] ∧
      (s.unit 0).fetchOutstanding = false ∧ (s.link 0).snapshot = some (s.unit 0).head ∧
      (s.unit 0).fetched = (s.unit 0).head ∧ (s.link 0).offers = [] ∧ (s.link 0).turnTimer ≠ none) := by decide +kernel

theorem witness_ByteTimersRunOut :
    ((sending .setup).link 0).phase = .setup ∧
    (((sending .strobe).link 0).phase = .strobe ∧ ((sending .strobe).link 0).stop = .none ∧
      ((sending .strobe).link 0).config.handshake = .paced ∧ ((sending .strobe).link 0).ackSeen = false) ∧
    (let l := ((sending .strobe).modLink 0 fun l => { l with config := { l.config with handshake := .timed } }).link 0
     l.phase = .strobe ∧ l.config.handshake ≠ .paced ∧ l.config.hold ≠ 0) ∧
    (((sending .hold).link 0).phase = .hold ∧ (sending .hold).drainingLine 0 = some 0 ∧
      ((sending .hold).line 0).offset + 1 < ((sending .hold).line 0).length) := by decide +kernel

/-- Bytes that complete at the end of STROBE, with a hold time of 0 or with their pulse ended, BUSY low or high; and
stopped ones, with bytes of their line left or without, also in HALTED. -/
theorem witness_ByteTimersRunOut_strobe :
    let at0 := fun (h : Handshake) => (sending .strobe).modLink 0 fun l =>
      { l with config := { l.config with handshake := h, hold := 0 }, ackSeen := true }
    let busy := (at0 .paced).modPin 0 fun p => { p with busy := true }
    let stops := fun (x : ByteStop) => (sending .strobe).modLink 0 fun l => { l with stop := x }
    (∀ h, h ∈ [Handshake.busyOnly, .timed] → ((at0 h).link 0).phase = .strobe ∧ ((at0 h).link 0).stop = .none ∧
      ((at0 h).link 0).config.handshake ≠ .paced ∧ ((at0 h).link 0).config.hold = 0 ∧
      (at0 h).drainingLine 0 = some 0) ∧
    (((at0 .paced).link 0).ackSeen = true ∧ (((at0 .paced).sense quiet).pin 0).busy = false ∧
      (at0 .paced).drainingLine 0 = some 0 ∧ ((busy.sense quiet).pin 0).busy = true) ∧
    (∀ x, x ∈ [ByteStop.sent, .notSent] → ((stops x).link 0).phase = .strobe ∧ ((stops x).link 0).stop = x ∧
      (stops x).drainingLine 0 = some 0 ∧ ((stops x).line 0).owner = some 0 ∧ ((stops x).link 0).lines = [0] ∧
      ((stops x).line 0).offset + 1 < ((stops x).line 0).length ∧ (stops x).partState = .running) ∧
    { stops .sent with partState := .halted }.partState ≠ .running ∧
    (((stops .sent).modLine 0 fun x => { x with offset := 47 }).line 0).length ≤ 47 + 1 := by decide +kernel

/-- State.ByteSent: the last byte of a marked line, with and without a SEND next to it, and of an unmarked one. -/
theorem witness_ByteTimersRunOut_last :
    let s := (sending .hold).modLine 0 fun x => { x with last := true, offset := 47 }
    let next := { copyOf .send .fillingAhead with slot := 1 }
    ((s.link 0).phase = .hold ∧ s.drainingLine 0 = some 0 ∧ (s.line 0).length ≤ (s.line 0).offset + 1 ∧
      (s.line 0).last = true ∧ (s.line 0).owner = some 0 ∧ (s.unit 0).window = [copyOf .send .current] ∧
      (copyOf .send .current).kind = some .send ∧ ((sending .hold).line 0).last = false) ∧
    (next.good .send = true ∧ next.unstarted = true ∧ next.slot ≠ (copyOf .send .current).slot ∧
      (copyOf .send .current).pauseAfter = false ∧ (s.link 0).config.faultStops = false) := by decide +kernel

theorem witness_InputsEndWaits :
    let high := (sending .ackWait).modPin 0 fun p => { p with busy := true }
    (((sending .busyWait).link 0).state ≠ .unconfigured ∧ ((sending .busyWait).link 0).wait = none ∧
      ((sending .busyWait).link 0).phase = .busyWait ∧ (sending .busyWait).drainingLine 0 = some 0) ∧
    (((sending .busyAfter).link 0).phase = .busyAfter ∧ (sending .busyAfter).drainingLine 0 = some 0 ∧
      ((sending .busyAfter).line 0).offset + 1 < ((sending .busyAfter).line 0).length) ∧
    ((high.link 0).dir = .outbound ∧ (high.link 0).phase = .ackWait ∧ ((high.sense quiet).pin 0).busy = true) ∧
    (((sending .ackWait).link 0).dir = .outbound ∧ (((sending .ackWait).sense quiet).pin 0).busy = false ∧
      (sending .ackWait).drainingLine 0 = some 0) ∧
    (((sending .setup).link 0).phase ≠ .ackWait ∧ ((sending .setup).link 0).phase ≠ .strobe) ∧
    (((sending .strobe).link 0).config.handshake = .paced ∧ ((sending .strobe).link 0).stop = .none) ∧
    ((receiving 48 0).link 0).dir = .inbound := by decide +kernel

theorem witness_HandshakeTimersExpire :
    (((sending .ackWait).unit 0).current = some (copyOf .send .current) ∧
      ((sending .ackWait).link 0).handshakeTimer ≠ none) ∧
    (((receiving 48 2).unit 0).current = some (copyOf .receive .current) ∧
      ((receiving 48 2).link 0).handshakeTimer ≠ none ∧ ((receiving 48 2).link 0).gathering = true) ∧
    (linked.link 0).handshakeTimer = none := by decide +kernel

/-- The last byte of a line, the first of a longer one, and the byte_count-th byte; an overrun; and no RECEIVE CURRENT:
no copy, a SIGNAL that pulses and one that waits. -/
theorem witness_ByteLatched :
    (((receiving 48 47).unit 0).current = some (copyOf .receive .current) ∧ (receiving 48 47).canAccept 0 = true ∧
      (receiving 48 47).gatheringRoom 0 = some 0 ∧ ((receiving 48 47).link 0).dir = .inbound ∧
      ((receiving 48 47).link 0).wait = none ∧
      ((receiving 48 47).line 0).length ≤ ((receiving 48 47).line 0).offset + 1) ∧
    ((receiving 48 46).canAccept 0 = true ∧
      ((receiving 48 46).line 0).offset + 1 < ((receiving 48 46).line 0).length) ∧
    ((receiving 48 0).modLink 0 fun l => { l with gathered := 99 }).canAccept 0 = true ∧
    (((receiving 48 48).unit 0).current = some (copyOf .receive .current) ∧ (receiving 48 48).canAccept 0 = false) ∧
    (linked.unit 0).current = none ∧
    (∀ s, s ∈ [pulsing, waiting false] → let s := s.modLink 0 fun l => { l with dir := .inbound }
      (s.link 0).dir = .inbound ∧ ((s.unit 0).current.bind Copy.kind) = some .signal) ∧
    (pulsing.link 0).wait = none ∧
    (let s := (waiting false).modLink 0 fun l => { l with wait := some .attnHigh }
     (s.link 0).wait = some .attnHigh ∧
      levelMeets (((s.sense quiet).modPin 0 fun p => { p with ack := true }).pin 0) .attnHigh = false) := by decide +kernel

/-- Without a copy, with a CURRENT SEND, a CURRENT SIGNAL and a RECEIVE whose gathering has ended; and a RECEIVE that
gathers, without SHORT_IS_ERROR and with it. -/
theorem witness_AttentionRises :
    let ended := (receiving 48 2).modLink 0 fun l => { l with gathering := false, endCause := .count }
    let strict := { copyOf .receive .current with desc := some { descriptor .receive with shortIsError := true } }
    let short := (receiving 48 2).modUnit 0 fun u => { u with window := [strict] }
    ((linked.unit 0).current = none ∧ (linked.link 0).attnLatch = false ∧ (linked.link 0).wait = none) ∧
    (((sending .strobe).unit 0).current = some (copyOf .send .current) ∧
      (copyOf .send .current).kind ≠ some .receive ∧ ((sending .strobe).link 0).attnLatch = false ∧
      ((sending .strobe).link 0).wait = none) ∧
    ((pulsing.unit 0).current = some (copyOf .signal .current) ∧ (copyOf .signal .current).kind ≠ some .receive ∧
      (pulsing.link 0).attnLatch = false ∧ (pulsing.link 0).wait = none) ∧
    ((ended.unit 0).current = some (copyOf .receive .current) ∧ (ended.link 0).gathering = false ∧
      (ended.link 0).attnLatch = false ∧ (ended.link 0).wait = none) ∧
    ((linked.unit 0).bound = true ∧ (linked.unit 0).window = [] ∧ (linked.link 0).state = .running ∧
      (linked.link 0).fillCursor = .idle ∧ (linked.link 0).offers = [] ∧ (linked.unit 0).statusRing = some 0 ∧
      (linked.ring (.s 0)).state ≠ .failed) ∧
    ((linked.modLink 0 fun l => { l with attnLatch := true }).link 0).attnLatch = true ∧
    (((receiving 48 2).unit 0).current = some (copyOf .receive .current) ∧
      (descriptor .receive).shortIsError = false ∧ ((receiving 48 2).link 0).gathering = true ∧
      (receiving 48 2).gatheringLine 0 = some 0 ∧ ((receiving 48 2).line 0).offset ≠ 0 ∧
      ((receiving 48 0).line 0).offset = 0) ∧
    ((short.unit 0).current = some strict ∧ (strict.desc.map (·.shortIsError)) = some true ∧
      strict.kind = some .receive ∧ (short.link 0).gathering = true ∧ (short.link 0).dir = .inbound ∧
      (short.link 0).wait = none ∧ short.gatheringLine 0 = some 0) := by decide +kernel

theorem witness_FaultFalls :
    let s := (sending .setup).modLink 0 fun l => { l with config := { config with faultStops := true } }
    ((s.link 0).config.faultStops = true ∧ (s.unit 0).current = some (copyOf .send .current) ∧
      (copyOf .send .current).kind = some .send ∧ (s.link 0).wait = none ∧ (s.link 0).state ≠ .unconfigured) ∧
    (linked.link 0).config.faultStops = false ∧
    (((faultStops pulsing).link 0).config.faultStops = true ∧ ((faultStops pulsing).link 0).wait = none ∧
      (faultStops pulsing).unit 0 = pulsing.unit 0 ∧ (pulsing.unit 0).current = some (copyOf .signal .current) ∧
      (copyOf .signal .current).kind = some .signal) := by decide +kernel

/-- A SIGNAL in its pulse phase, with nothing to wait for and with ATTN to wait for; and one that waits, with its limit.
-/
theorem witness_SignalEvents :
    let waits := fun (w : WaitCond) => (waiting true).modLink 0 fun l => { l with wait := some w }
    (pulsing.resetHeld = false ∧ pulsing.partState = .running ∧ (pulsing.link 0).state ≠ .unconfigured ∧
      (pulsing.unit 0).current = some (copyOf .signal .current) ∧ (copyOf .signal .current).desc.isSome ∧
      (descriptor .signal).kind = some .signal ∧ (pulsing.link 0).pulseTimer ≠ none ∧
      (pulsing.link 0).sub = .signalling ∧ levelMeets ((pulsing.sense quiet).pin 0) .none = true ∧
      levelMeets ((pulsing.sense quiet).pin 0) .attnHigh = false) ∧
    (∀ w : WaitCond, w ∈ [.attnHigh, .attnLow, .faultHigh, .faultLow, .busyHigh, .busyLow] →
      ((waits w).link 0).wait = some w ∧ ((waits w).unit 0).current.isSome ∧ ((waits w).link 0).attnLatch = false ∧
      ((waits w).link 0).phase ≠ .busyWait ∧ ((waits w).link 0).phase ≠ .busyAfter) ∧
    (((waits .attnHigh).modLink 0 fun l => { l with attnLatch := true }).link 0).attnLatch = true ∧
    (((waiting true).link 0).limitTimer ≠ none ∧ ((waiting false).link 0).limitTimer ≠ none) := by decide +kernel

/-! ### Witnesses for what stands beside: records that wait, copies ahead, waits that go on -/

/-- Link 0 with an ATTENTION record standing before what it offers. -/
def attending (s : State) : State :=
  s.modLink 0 fun l => { l with offers := [{ purpose := .attention, record := record }] }

/-- The commands that refuse a target above 3, at both ends of the range. -/
theorem witness_targets :
    (awaiting linked).Awaits 0 ∧ leField (command [(1, 4)]) 1 1 = 4 ∧ leField (command [(1, 255)]) 1 1 = 255 := by
  unfold State.Awaits State.Holds
  decide +kernel

/-- A QUIESCING link whose snapshot stands behind the new tail, or before it, or at none. -/
theorem witness_TransferNotify_snapshot :
    let s := (linked.modLink 0 fun l => { l with state := .quiescing, snapshot := some 4 }).modUnit 0 fun u =>
      { u with head := 6, fetched := 7, tail := 4 }
    s.OfferInv ∧ (s.link 0).state = .quiescing ∧ (s.link 0).snapshot = some 4 ∧
    ¬ringDist 8 6 2 < ringDist 8 6 7 ∧ (2 + 8 - 6) % 8 < (4 + 8 - 6) % 8 ∧ ¬(5 + 8 - 6) % 8 < (4 + 8 - 6) % 8 ∧
    ((s.modLink 0 fun l => { l with snapshot := none }).link 0).snapshot = none :=
  ⟨offerInv_of _ (by decide +kernel), by decide +kernel⟩

/-- SET LINES ends the only pulse of a SIGNAL, or leaves it; the level that is awaited then stands, or does not. -/
theorem witness_LinesSet_pulses :
    let stops := command [(0, 8), (4, 1)]
    let other := command [(0, 8), (5, 2)]
    let d := { descriptor .signal with wait := some .attnHigh }
    let waits := pulsing.modUnit 0 fun u => { u with window := [{ copyOf .signal .current with desc := some d }] }
    ((pulsing.link 0).pulseTimer ≠ none ∧ leField stops 4 1 = 1 ∧ leField stops 5 1 = 0 ∧
      (pulsing.link 0).restore1 = none ∧ (pulsing.link 0).sub = .signalling ∧
      (pulsing.unit 0).current = some (copyOf .signal .current) ∧
      levelMeets (((awaiting pulsing).taken 0 stops quiet).pin 0) .none = true) ∧
    (leField other 4 1 = 0 ∧ (pulsing.link 0).restore0 ≠ none) ∧
    ((waits.unit 0).current = some { copyOf .signal .current with desc := some d } ∧
      levelMeets (((awaiting waits).taken 0 stops quiet).pin 0) .attnHigh = false) ∧
    ((pulsing.modLink 0 fun l => { l with sub := .idle }).link 0).sub ≠ .signalling := by decide +kernel

/-- TransferRingDeleted, LinkResumed and LinkAborted: an ATTENTION record stands while the copies are cancelled. -/
theorem witness_attention_stands :
    ((attending (windowed (copyOf .send .waiting) id)).MayOffer 0 ∧ (attending (sending .none)).MayOffer 0 ∧
      (attending pulsing).MayOffer 0) ∧
    (∀ o, o ∈ ((attending held).link 0).offers → o.purpose = .attention) ∧
    (∀ o, o ∈ ((attending linked).link 0).offers → o.purpose = .attention) ∧
    (attending linked).unit 0 = linked.unit 0 := by
  unfold State.MayOffer
  decide +kernel

/-- The code, source, tag, address and detail of a first event at their ends, and none. -/
theorem witness_CapturesMade_log :
    let e : ErrorEvent := { cls := .fatal, code := .controlFetchFailed, source := .register, tag := some 0xFFFF,
                            address := some 0xFFFFFFFFFFFF, detail := some 0xFFFFFFFF }
    let l : ErrorLog := { ErrorLog.reset with first := some e, further := 255 }
    l.further < 256 ∧ l.first = some e ∧ ErrorLog.reset.first = none := by decide +kernel

/-- A failed SEND in front, none but an ATTENTION record standing. -/
theorem witness_FillEnds_record :
    ((filling .filling).unit 0).window = copyOf .send .current :: [] ∧ (filling .filling).MayOffer 0 ∧
    (attending (filling .filling)).MayOffer 0 := by
  unfold State.MayOffer
  decide +kernel

/-- Link 0 in a state, the last line of its front RECEIVE in STORING, its break position at a place or at none. -/
def settling (x : LinkState) (c : Copy) (b : Option Nat) : State :=
  (storing.modLink 0 fun l =>
    { l with state := x, sub := .idle, breakPos := b, heldCopy := if c.exec = .failed then some 0 else none,
             holdCause := if c.exec = .failed then some .error else some .statusLost, holdRecord := .owed }).modUnit 0
    fun u => { u with window := [c] }

/-- A RECEIVE that has failed, in HOLDING and in QUIESCING, or been cancelled, in QUIESCING and after the loss of its
ring, whose last line is STORING; its break position at none, or before the line's end. -/
theorem witness_StoreEnds_records :
    let failed := { copyOf .receive .failed with outcome := some .linkTimeout }
    let cancelled := { copyOf .receive .doneUnretired with outcome := some .cancelled }
    ∀ b, b ∈ [none, some 0, some 47] → ∀ x, x ∈ [LinkState.holding, .quiescing] → ∀ c, c ∈ [failed, cancelled] →
      let s := settling x c b
      (s.Holds .write 0 (.store 0) ∧ s.partState = .running ∧ (s.line 0).owner = some 0 ∧
        (s.line 0).state = .storing ∧ (s.unit 0).window = c :: [] ∧ c.kind = some .receive ∧ c.bytesDone = none ∧
        (s.link 0).state = x ∧ (s.link 0).gathering = false ∧ (s.link 0).lines = [0] ∧ (s.link 0).breakPos = b) ∧
      (c.exec = .failed → (s.link 0).heldCopy = some c.slot ∧ (s.link 0).holdRecord = .owed) ∧
      (c.exec ≠ .failed → c.exec = .doneUnretired ∧ c.outcome = some .cancelled ∧
        (s.link 0).holdCause = some .statusLost) ∧
      s.MayOffer 0 ∧ (attending s).MayOffer 0 := by
  unfold State.Holds State.MayOffer
  decide +kernel

/-- The largest numbers of a status record. -/
theorem witness_StatusWriteEnds_record :
    let x := { record with bytesDone := 2 ^ 32 - 1, ringHead := 65535, detail := .segment 64 }
    x.bytesDone < 2 ^ 32 ∧ x.ringHead < 2 ^ 16 ∧ ∀ i, x.detail = .segment i → i ≤ 64 := by
  refine ⟨by decide, by decide, fun i h => ?_⟩
  cases h
  decide

/-- A link in a state whose status ring is FAILED, and that makes an offer. -/
theorem witness_StatusRingFails_later :
    ∀ x, x ∈ [LinkState.running, .holding, .held, .quiescing] → ∀ f, f ∈ [Cancellation.none, .flush] →
      let s := (onLink (copyOf .send .current) fun l => { l with state := x, cancellation := f }).modRing (.s 0) fun y =>
        { y with state := .failed }
      (s.unit 0).statusRing = some 0 ∧ (s.ring (.s 0)).state = .failed ∧ (s.link 0).state = x ∧
      (s.link 0).cancellation = f := by decide +kernel

/-- RequestIssued, by the route of the request that is chosen. -/
theorem witness_RequestIssued_routes :
    let route (s : State) (k : BusKind) := ((s.sense quiet).nextRequest k).map (·.request.route)
    let again := (held.modLink 0 Link.running).modUnit 0 fun u => { u with reread := .wanted }
    let table := (tabled.modSegWindow 0 .fill fun w => { w with read := .none, next := 0 }).modIdent .read 0 fun _ =>
      Ident.reset
    let sealed := (storing.modLine 0 fun x => { x with state := .sealed }).modIdent .write 0 fun _ => Ident.reset
    let message := base.modRing .sc fun x => { x with msgDue := true, msgAddr := 0x7000 }
    let idle := counted.modIdent .write 0 fun _ => Ident.reset
    let first := idle.modControl fun x => { x with write0 := .offered, write1 := .idle }
    let second := idle.modControl fun x => { x with write0 := .issued, write1 := .offered }
    let log := first.modControl fun x => { x with capture := .log base.errorLog }
    let fetch := base.modControl fun x => { x with state := .fetching, fetched := 1, tail := 1 }
    let start : State := { State.reset with partState := .starting, startRead := some 0x5000 }
    route again .read = some (.reread 0 0) ∧ route table .read = some (.table 0 .fill 0 2) ∧
    (table.cursorDesc 0 .fill).isSome ∧ route sealed .write = some (.store 0) ∧
    route message .write = some (.message .sc true) ∧ route first .write = some (.counters false) ∧
    route second .write = some (.counters true) ∧ first.control.current.isSome ∧ route log .write = some .log ∧
    route fetch .read = some .command ∧ route start .read = some .startRecord := by decide +kernel

/-- The record of the front copy is accepted with the held copy next to it in the window. -/
theorem witness_OfferAccepted_next :
    ∀ x, x ∈ [LinkState.holding, .quiescing] →
      let done := { copyOf .send .doneUnretired with outcome := some .ok, bytesDone := some 100 }
      let failed := { copyOf .send .failed with slot := 1, outcome := some .linkTimeout, bytesDone := some 3 }
      let s := (onLink done fun l =>
        { l with state := x, heldCopy := some 1, holdRecord := .owed,
                 offers := [{ purpose := .retire, record := record },
                            { purpose := .attention, record := record }] }).modUnit 0 fun u =>
        { u with window := [done, failed], fetched := 2, tail := 2 }
      (s.sense quiet).nextProducer (.s 0) = some (.link 0) ∧ (s.link 0).state = x ∧
      (s.unit 0).window = done :: failed :: [] ∧ (s.link 0).heldCopy = some failed.slot ∧
      (s.link 0).holdRecord = .owed ∧ failed.exec = .failed ∧ failed.bytesDone = some 3 ∧
      (∀ o, o ∈ (s.link 0).offers.tail → o.purpose = .attention) := by decide +kernel

/-- The copies of CopyStarts and TurnaroundEnds that fail in front, and those that start, with an ATTENTION record
standing. -/
theorem witness_CopyStarts_records :
    (∀ c, c ∈ [{ copyOf .send .waiting with verdict := .invalid .count }, unreadableCopy 0 .timeout,
        { copyOf .send .waiting with inlineMismatch := true }] →
      let s := attending (onLink c id)
      s.MayOffer 0 ∧ (s.unit 0).window = c :: [] ∧ c.exec = .waiting ∧ (s.link 0).state = .running ∧
      (s.link 0).sub = .idle ∧ (s.link 0).turnTimer = none) ∧
    (unreadableCopy 0 .timeout).desc = none ∧
    (let s := attending (faultStops (onLink (copyOf .receive .waiting) fun l => { l with dir := .inbound }))
     s.MayOffer 0 ∧ (s.link 0).lines = [] ∧ ((s.sense faulty).pin 0).fault = false) ∧
    (((attending turning).link 0).offers ≠ [] ∧ ((attending turning).link 0).sub = .turning ∧
      ((attending turning).link 0).turnTimer ≠ none ∧ (attending turning).unit 0 = turning.unit 0) := by
  unfold State.MayOffer
  decide +kernel

/-- State.ByteSent: a CURRENT SEND behind one that has ended and not retired, with another SEND next to it, and with
fault_stops set and FAULT# low or high. -/
theorem witness_ByteTimersRunOut_behind :
    let done := { copyOf .send .doneUnretired with outcome := some .ok, bytesDone := some 100 }
    let current := { copyOf .send .current with slot := 1 }
    let next := { copyOf .send .fillingAhead with slot := 2 }
    let s := faultStops (((sending .hold).modLine 0 fun x =>
      { x with last := true, offset := 47, descSlot := 1 }).modUnit 0 fun u =>
        { u with window := [done] ++ current :: [next], fetched := 3, tail := 3 })
    ((s.unit 0).window = [done] ++ current :: [next] ∧ current.exec = .current ∧ current.kind = some .send ∧
      ((s.unit 0).window.map (·.slot)).Nodup ∧ (s.link 0).phase = .hold ∧ s.drainingLine 0 = some 0 ∧
      (s.line 0).length ≤ (s.line 0).offset + 1 ∧ (s.line 0).last = true ∧ (s.line 0).owner = some 0) ∧
    (done.exec = .doneUnretired ∧ done.kind = some .send ∧ done.pauseAfter = false) ∧
    (next.good .send = true ∧ next.unstarted = true ∧ current.pauseAfter = false) ∧
    ((s.link 0).config.faultStops = true ∧ ((s.sense faulty).pin 0).fault = false ∧
      ((s.sense quiet).pin 0).fault = true) := by decide +kernel

/-- A byte's waits beside the wait of a SIGNAL, whose level does not come; outside them, one that comes and one that
does not; and an ACK# pulse in a STROBE without PACED. -/
theorem witness_InputsEndWaits_signal :
    (∀ p, p ∈ [BytePhase.busyWait, .busyAfter, .ackWait, .strobe] →
      let s := (sending p).modLink 0 fun l => { l with wait := some .attnHigh }
      (s.link 0).wait = some .attnHigh ∧ (s.link 0).phase = p ∧
      levelMeets (((s.sense quiet).modPin 0 fun x => { x with busy := false }).pin 0) .attnHigh = false ∧
      levelMeets (((s.sense quiet).modPin 0 fun x => { x with ack := true }).pin 0) .attnHigh = false) ∧
    (let s := (waiting false).modLink 0 fun l => { l with wait := some .busyLow }
     (s.link 0).wait = some .busyLow ∧ (s.link 0).phase = .none ∧
      levelMeets (((s.sense quiet).modPin 0 fun x => { x with busy := false }).pin 0) .busyLow = true) ∧
    (let l := ((sending .strobe).modLink 0 fun l => { l with config := { l.config with handshake := .timed } }).link 0
     l.dir = .outbound ∧ l.phase = .strobe ∧ l.config.handshake ≠ .paced) := by decide +kernel

/-- A SEND and a RECEIVE without a line that fail in front, none but an ATTENTION record standing. -/
theorem witness_HandshakeTimersExpire_records :
    let bare := (receiving 48 2).modLink 0 fun l => { l with lines := [] }
    ((attending (sending .ackWait)).MayOffer 0 ∧ (sending .ackWait).MayOffer 0 ∧
      ((sending .ackWait).unit 0).window = copyOf .send .current :: []) ∧
    ((attending bare).MayOffer 0 ∧ (bare.unit 0).window = copyOf .receive .current :: [] ∧
      (bare.link 0).gathering = true ∧ (bare.link 0).lines = [] ∧ (bare.link 0).handshakeTimer ≠ none) := by
  unfold State.MayOffer
  decide +kernel

/-- An edge of ATTN while a SIGNAL waits for ATTN high, and for another level; while it pulses; and with S0 FAILED. -/
theorem witness_AttentionRises_signal :
    let edge (s : State) := ((s.sense quiet).modPin 0 fun p => { p with attn := true }).pin 0
    let high := (waiting false).modLink 0 fun l => { l with wait := some .attnHigh }
    let lost (s : State) := s.modRing (.s 0) fun x => { x with state := .failed }
    ((high.link 0).wait = some .attnHigh ∧ levelMeets (edge high) .attnHigh = true ∧
      (high.link 0).attnLatch = false) ∧
    (∀ s, s ∈ [waiting false, lost (waiting false)] → (s.link 0).wait = some .attnLow ∧
      levelMeets (edge s) .attnLow = false ∧ (s.unit 0).bound = true ∧ (s.link 0).sub = .signalling ∧
      ((s.unit 0).window.map fun c => (c.exec, c.kind)) = [(.current, some .signal)] ∧ (s.link 0).state = .running ∧
      (s.link 0).fillCursor = .idle ∧ (s.link 0).attnLatch = false ∧ (s.link 0).offers = []) ∧
    ((pulsing.link 0).wait = none ∧ (pulsing.link 0).sub = .signalling) ∧
    (((lost linked).ring (.s 0)).state = .failed ∧ ((lost linked).unit 0).statusRing = some 0 ∧
      ((lost linked).link 0).lines = [] ∧ ((lost linked).link 0).phase = .none ∧
      ((lost linked).link 0).cancellation = .none) := by decide +kernel

/-- A falling FAULT# while a SIGNAL waits for it, and for another level. -/
theorem witness_FaultFalls_signal :
    let edge (s : State) := ((s.sense quiet).modPin 0 fun p => { p with fault := false }).pin 0
    ∀ w, w ∈ [WaitCond.faultLow, .attnHigh] →
      let s := faultStops ((waiting false).modLink 0 fun l => { l with wait := some w })
      (s.link 0).wait = some w ∧ (s.link 0).config.faultStops = true ∧
      ((s.unit 0).current.bind Copy.kind) = some .signal ∧ levelMeets (edge s) w = (w == .faultLow) := by
  decide +kernel

end Sys2Proof.Tests
end

section
/-! SUPPORT. Transfer ring notifies (R4, R5, R156, R196): what the selector of a write names, why a notify is refused,
what a taken one leaves, and what the acceptance of offers at the end of its event does. -/

namespace Sys2Proof.Machine

variable {s t : State} {u : RingUnit}

/-! ### The selector -/

theorem selected_of_transfer {w : Word} {n : LinkId} (h : writtenSelector w = n) : selected w = .transfer n := by
  have hlt : writtenSelector w < 4 := by omega
  simp [selected, h]

/-- In RUNNING a notify with the selector of Tn goes to that ring unit (R196). -/
theorem State.writeRingNotify_of_transfer {w : Word} {n : LinkId} (hp : s.partState = .running)
    (h : writtenSelector w = n) : s.writeRingNotify w = s.notify n (writtenValue w) := by
  simp [State.writeRingNotify, hp, selected_of_transfer h]

theorem exec_transferRingNotify_of_transfer {w : Word} {n : LinkId} (hr : s.resetHeld = false)
    (hp : s.partState = .running) (h : writtenSelector w = n) :
    exec (.transferRingNotify w) s = .next (s.notify n (writtenValue w)).acceptOffers := by
  rw [exec_transferRingNotify, execTransferRingNotify, State.live_of_released hr,
    State.writeRingNotify_of_transfer hp h]

/-! ### Refusals, in the order of R4 -/

theorem RingUnit.notifyRefusal_of_unbound (v : Nat) (hb : u.bound = false) :
    u.notifyRefusal v = some .notifyUnbound := by
  simp [RingUnit.notifyRefusal, hb]

theorem RingUnit.notifyRefusal_of_range {v : Nat} (hb : u.bound = true) (hv : u.size ≤ v) :
    u.notifyRefusal v = some .notifyRange := by
  simp [RingUnit.notifyRefusal, hb, hv]

theorem RingUnit.notifyRefusal_of_retract {v : Nat} (hb : u.bound = true) (hv : v < u.size)
    (hd : ringDist u.size u.head v < u.fetchedCount) : u.notifyRefusal v = some .notifyRetract := by
  simp [RingUnit.notifyRefusal, hb, Nat.not_le.2 hv, hd]

theorem RingUnit.notifyRefusal_eq_none {v : Nat} (hb : u.bound = true) (hv : v < u.size)
    (hd : ¬ringDist u.size u.head v < u.fetchedCount) : u.notifyRefusal v = none := by
  simp [RingUnit.notifyRefusal, hb, Nat.not_le.2 hv, hd]

theorem State.notify_of_refused {n : LinkId} {v : Nat} {code : Code} (h : (s.unit n).notifyRefusal v = some code) :
    s.notify n v = s.logEvent
      { cls := .register, code := code, source := .ringUnit n, tag := none, address := none,
        detail := some (BitVec.ofNat 32 v) } := by
  simp [State.notify, h]

/-! ### A notify that is taken -/

/-- A link engine after its ring unit has taken a notify of v: in QUIESCING the snapshot may move back (R156). -/
def Link.afterNotify (u : RingUnit) (v : Nat) (l : Link) : Link :=
  { l with snapshot := if l.state = .quiescing then snapshotAfter u v l.snapshot else l.snapshot }

/-- What a notify that is taken leaves: the new tail (R5), and the link as R156 gives it. -/
def State.takeNotify (s : State) (n : LinkId) (v : Nat) : State :=
  (s.modUnit n fun u => { u with tail := v }).modLink n (Link.afterNotify (s.unit n) v)

theorem State.notify_of_taken {n : LinkId} {v : Nat} (h : (s.unit n).notifyRefusal v = none) :
    s.notify n v = s.takeNotify n v := by
  simp only [State.notify, h]
  rfl

theorem Link.afterNotify_of_not_quiescing {l : Link} (v : Nat) (h : l.state ≠ .quiescing) :
    l.afterNotify u v = l := by
  simp [Link.afterNotify, h]

theorem Link.afterNotify_of_no_snapshot {l : Link} (v : Nat) (h : l.snapshot = none) : l.afterNotify u v = l := by
  cases l
  simp_all [Link.afterNotify, snapshotAfter]

theorem Link.afterNotify_snapshot_of_quiescing {l : Link} {x : Nat} (v : Nat) (h : l.state = .quiescing)
    (hx : l.snapshot = some x) : (l.afterNotify u v).snapshot =
      some (if ringDist u.size u.head v < ringDist u.size u.head x then v else x) := by
  simp [Link.afterNotify, snapshotAfter, h, hx]

@[simp] theorem State.takeNotify_unit_self (n : LinkId) (v : Nat) :
    (s.takeNotify n v).unit n = { s.unit n with tail := v } := by
  simp [State.takeNotify]

@[simp] theorem State.takeNotify_link_self (n : LinkId) (v : Nat) :
    (s.takeNotify n v).link n = (s.link n).afterNotify (s.unit n) v := by
  simp [State.takeNotify]

theorem State.takeNotify_unit_other {n m : LinkId} (v : Nat) (h : m ≠ n) :
    (s.takeNotify n v).unit m = s.unit m := by
  simp [State.takeNotify, State.modUnit_unit_other _ _ _ _ h]

theorem State.takeNotify_link_other {n m : LinkId} (v : Nat) (h : m ≠ n) :
    (s.takeNotify n v).link m = s.link m := by
  simp [State.takeNotify, State.modLink_link_other _ _ _ _ h]

theorem State.takeNotify_frame (n : LinkId) (v : Nat) : s.takeNotify n v =
    { s with units := (s.takeNotify n v).units, links := (s.takeNotify n v).links } := rfl

theorem State.takeNotify_statusRing (n : LinkId) (v : Nat) (m : LinkId) :
    ((s.takeNotify n v).unit m).statusRing = (s.unit m).statusRing := by
  rcases eq_or_ne m n with rfl | h
  · simp
  · rw [State.takeNotify_unit_other v h]

theorem State.takeNotify_offers (n : LinkId) (v : Nat) (m : LinkId) :
    ((s.takeNotify n v).link m).offers = (s.link m).offers := by
  rcases eq_or_ne m n with rfl | h
  · simp [Link.afterNotify]
  · rw [State.takeNotify_link_other v h]

/-! ### The acceptance after it -/

/-- Which producer a ring takes next depends on the offers, the rings they go to and the ring's pointer only (R128). -/
theorem State.nextProducer_congr (r : RingId) (hu : ∀ m, (t.unit m).statusRing = (s.unit m).statusRing)
    (hl : ∀ m, (t.link m).offers = (s.link m).offers) (hc : t.control.resultOffer = s.control.resultOffer)
    (hn : t.notices = s.notices) (hr : t.ring r = s.ring r) : t.nextProducer r = s.nextProducer r := by
  have hp : t.presented r = s.presented r := by
    funext p
    cases p <;> simp [State.presented, hu, hl, hc, hn]
  simp [State.nextProducer, hp, hr]

/-- A notify that is taken makes no offer, so nothing is accepted after it. -/
theorem State.acceptOffers_takeNotify (h : s.OfferInv) (n : LinkId) (v : Nat) :
    (s.takeNotify n v).acceptOffers = s.takeNotify n v := by
  refine State.acceptOffers_of_settled fun r hr => ?_
  rw [State.nextProducer_congr r (State.takeNotify_statusRing n v) (State.takeNotify_offers n v) rfl rfl
    (by simp [State.takeNotify])]
  exact h.settled r (by simpa [State.hasPlace, State.takeNotify] using hr)

/-! ### The counts -/

/-- Two indices of a ring that lie equally far ahead of the head are the same. -/
theorem ringDist_inj {size a b c : Nat} (ha : a < size) (hb : b < size) (hc : c < size)
    (h : ringDist size a b = ringDist size a c) : b = c := by
  have hmod : b + (size - a) ≡ c + (size - a) [MOD size] := by
    rw [Nat.ModEq, ← Nat.add_sub_assoc ha.le, ← Nat.add_sub_assoc ha.le]
    exact h
  exact (Nat.ModEq.add_right_cancel' _ hmod).eq_of_lt_of_lt hb hc

/-- A tail that gives the posted count the ring had is the tail it had. -/
theorem RingUnit.withTail_eq_self {v : Nat} (hh : u.head < u.size) (ht : u.tail < u.size) (hv : v < u.size)
    (h : { u with tail := v }.posted = u.posted) : { u with tail := v } = u := by
  have : v = u.tail := ringDist_inj hh hv ht h
  rw [this]

/-- The conditions of a descriptor fetch (R6). -/
theorem State.fetchWanted_iff (n : LinkId) : s.fetchWanted n = true ↔
    s.partState = .running ∧ (s.link n).state = .running ∧ (s.unit n).bound = true ∧
    (s.unit n).fetchOutstanding = false ∧ (s.unit n).fetchedCount < (s.unit n).posted ∧
    (s.unit n).fetchedCount < Config.windowSize ∧ ∀ c f, c ∈ (s.unit n).window → c.verdict ≠ .unreadable f := by
  simp only [State.fetchWanted, State.linkRuns, Bool.and_eq_true, beq_iff_eq, Bool.not_eq_true',
    decide_eq_true_eq, List.any_eq_false, and_assoc]
  repeat refine and_congr_right fun _ => ?_
  refine forall_congr' fun c => ?_
  cases c.verdict <;> simp

/-- Slots that a taken notify adds may be fetched at once (R6). -/
theorem State.fetchWanted_takeNotify {n : LinkId} {v : Nat} (hp : s.partState = .running)
    (hb : (s.unit n).bound = true) (hl : (s.link n).state = .running) (ho : (s.unit n).fetchOutstanding = false)
    (h4 : (s.unit n).fetchedCount < 4) (hc : (s.unit n).fetchedCount < ((s.takeNotify n v).unit n).posted)
    (hw : ∀ c f, c ∈ (s.unit n).window → c.verdict ≠ .unreadable f) : (s.takeNotify n v).fetchWanted n = true := by
  rw [State.fetchWanted_iff]
  rw [State.takeNotify_unit_self] at hc ⊢
  rw [State.takeNotify_link_self]
  exact ⟨hp, hl, hb, ho, hc, h4, hw⟩

/-! ### The obligation -/

/-- Settles O15, a case for each line of R4's table: a refused notify is its log event, a taken one is takeNotify. -/
theorem transferNotify : Obligations.TransferNotify := by
  intro s w n hr hp hsel u v event retracts
  have hexec : exec (.transferRingNotify w) s = .next (s.notify n v).acceptOffers :=
    exec_transferRingNotify_of_transfer hr hp hsel
  have refused {code : Code} (h : u.notifyRefusal v = some code) :
      exec (.transferRingNotify w) s = .next (s.logEvent (event code)).acceptOffers := by
    rw [hexec, State.notify_of_refused h]
  refine ⟨fun hb => refused (RingUnit.notifyRefusal_of_unbound v hb),
    fun hb hv => refused (RingUnit.notifyRefusal_of_range hb hv),
    fun hb hv hd => refused (RingUnit.notifyRefusal_of_retract hb hv hd), fun hb hv hd hi => ?_⟩
  have htaken : s.notify n v = s.takeNotify n v := State.notify_of_taken (RingUnit.notifyRefusal_eq_none hb hv hd)
  have hunit : (s.takeNotify n v).unit n = { u with tail := v } := State.takeNotify_unit_self n v
  have hlink : (s.takeNotify n v).link n = (s.link n).afterNotify u v := State.takeNotify_link_self n v
  refine ⟨s.takeNotify n v, by rw [hexec, htaken, State.acceptOffers_takeNotify hi], State.takeNotify_frame n v, hunit,
    fun m hm => ⟨State.takeNotify_unit_other v hm, State.takeNotify_link_other v hm⟩, by rw [hlink]; rfl, ?_, ?_, ?_,
    ?_, ?_⟩
  · exact fun hq => hlink.trans (Link.afterNotify_of_not_quiescing v hq)
  · exact fun hx => hlink.trans (Link.afterNotify_of_no_snapshot v hx)
  · exact fun x hq hx => (congrArg Link.snapshot hlink).trans (Link.afterNotify_snapshot_of_quiescing v hq hx)
  · rw [hunit]
    exact fun hh ht hposted => RingUnit.withTail_eq_self hh ht hv hposted
  · exact fun hl ho h4 hc hw => State.fetchWanted_takeNotify hp hb hl ho h4 hc hw

end Sys2Proof.Machine
end

section
/-! SUPPORT. Status releases (R133, R135, R196): which ring a write names, when its release is refused, what a taken one
does to the ring and its interrupt state, and that nothing is accepted after it. -/

namespace Sys2Proof.Machine

variable {s : State} {x : StatusRing}

/-! ### The selector -/

theorem selected_of_control {w : Word} (h : writtenSelector w = 8) : selected w = .control := by
  simp [selected, h]

/-- In RUNNING a release goes to the ring that its selector names (R196). -/
theorem exec_release_of_selected {w : Word} {r : RingId} (hr : s.resetHeld = false) (hp : s.partState = .running)
    (h : (∃ n : LinkId, r = .s n ∧ writtenSelector w = n) ∨ (r = .sc ∧ writtenSelector w = 8)) :
    exec (.release w) s = .next (s.release r (writtenValue w)).acceptOffers := by
  have hselected : s.writeStatusRelease w = s.release r (writtenValue w) := by
    obtain ⟨n, rfl, hn⟩ | ⟨rfl, h8⟩ := h
    · simp [State.writeStatusRelease, hp, selected_of_transfer hn]
    · simp [State.writeStatusRelease, hp, selected_of_control h8]
  rw [exec_release, execRelease, State.live_of_released hr, hselected]

/-! ### The refusal -/

/-- A release is refused by a ring that is not there, past its size, or past its tail (R133). -/
theorem StatusRing.refusesRelease_iff (h : Nat) : x.refusesRelease h = true ↔ x.state = .absent ∨ x.size ≤ h ∨
    ringDist x.size x.releasedHead x.tail < ringDist x.size x.releasedHead h := by
  simp [StatusRing.refusesRelease, or_assoc]

theorem State.release_of_refused {r : RingId} {h : Nat} (hx : (s.ring r).refusesRelease h = true) :
    s.release r h = s.logEvent
      { cls := .register, code := .releaseRange, source := .ring r, tag := none, address := none,
        detail := some (BitVec.ofNat 32 h) } := by
  simp [State.release, hx]

theorem State.release_of_taken {r : RingId} {h : Nat} (hx : ¬(s.ring r).refusesRelease h = true) :
    s.release r h = s.modRing r (StatusRing.releaseTo · h) := by
  simp [State.release, hx]

/-! ### The interrupt state (R135) -/

theorem StatusRing.noteRelease_of_no_message (hm : x.msgAddr = 0) : x.noteRelease = x := by
  simp [StatusRing.noteRelease, hm]

theorem StatusRing.noteRelease_of_unreleased (hm : x.msgAddr ≠ 0) (hu : 0 < x.unreleased) :
    x.noteRelease = { x with msgDue := true, intState := .signalled, modTimer := none, written := 0 } := by
  rw [StatusRing.noteRelease, if_neg hm, if_pos hu, StatusRing.signal]

theorem StatusRing.noteRelease_of_all_released (hm : x.msgAddr ≠ 0) (hu : x.unreleased = 0) :
    x.noteRelease = { x with intState := .armed, modTimer := none, written := 0 } := by
  rw [StatusRing.noteRelease, if_neg hm, if_neg (by omega)]

/-- The interrupt state and what belongs to it are all that R135 changes. -/
theorem StatusRing.noteRelease_frame : x.noteRelease = { x with
    msgDue := x.noteRelease.msgDue, intState := x.noteRelease.intState, modTimer := x.noteRelease.modTimer,
    written := x.noteRelease.written } := by
  unfold StatusRing.noteRelease
  split
  · rfl
  · split <;> rfl

/-! ### A release that is taken -/

/-- The released head moved to h, and the unreleased count lowered by the distance, down to 0 (R133). -/
def StatusRing.moveReleased (x : StatusRing) (h : Nat) : StatusRing :=
  { x with
    releasedHead := h
    unreleased := x.unreleased - min (ringDist x.size x.releasedHead h) x.unreleased }

theorem StatusRing.releaseTo_of_active (h : Nat) (ha : x.state = .active) :
    x.releaseTo h = (x.moveReleased h).noteRelease := by
  simp [StatusRing.releaseTo, StatusRing.moveReleased, ha]

theorem StatusRing.releaseTo_of_not_active (h : Nat) (ha : x.state ≠ .active) : x.releaseTo h = x.moveReleased h := by
  simp [StatusRing.releaseTo, StatusRing.moveReleased, ha]

/-- On a ring without messages a release does not touch the interrupt state. -/
theorem StatusRing.releaseTo_of_no_message (h : Nat) (hm : x.msgAddr = 0) : x.releaseTo h = x.moveReleased h := by
  by_cases ha : x.state = .active
  · rw [StatusRing.releaseTo_of_active h ha]
    exact StatusRing.noteRelease_of_no_message hm
  · exact StatusRing.releaseTo_of_not_active h ha

/-- A release leaves what decides which offers the ring accepts. -/
theorem StatusRing.releaseTo_accepting (h : Nat) : (x.releaseTo h).state = x.state ∧
    (x.releaseTo h).pending = x.pending ∧ (x.releaseTo h).pointer = x.pointer := by
  by_cases ha : x.state = .active
  · rw [StatusRing.releaseTo_of_active h ha, StatusRing.noteRelease_frame]
    exact ⟨rfl, rfl, rfl⟩
  · rw [StatusRing.releaseTo_of_not_active h ha]
    exact ⟨rfl, rfl, rfl⟩

theorem State.modRing_frame (r : RingId) (f : StatusRing → StatusRing) :
    s.modRing r f = { s with sc := (s.modRing r f).sc, sRings := (s.modRing r f).sRings } := by
  cases r <;> rfl

/-! ### The acceptance after it -/

/-- What a producer presents does not depend on what the rings hold. -/
@[simp] theorem State.presented_modRing (r r' : RingId) (f : StatusRing → StatusRing) :
    (s.modRing r f).presented r' = s.presented r' := by
  funext p
  cases p <;> simp [State.presented]

/-- After a change to a ring that leaves its state, its pending list and its pointer nothing is accepted. -/
theorem State.acceptOffers_modRing (hi : s.OfferInv) (r : RingId) {f : StatusRing → StatusRing}
    (hf : (f (s.ring r)).state = (s.ring r).state ∧ (f (s.ring r)).pending = (s.ring r).pending ∧
      (f (s.ring r)).pointer = (s.ring r).pointer) : (s.modRing r f).acceptOffers = s.modRing r f := by
  obtain ⟨hstate, hpending, hpointer⟩ := hf
  refine State.acceptOffers_of_settled fun r' hplace => ?_
  rcases eq_or_ne r' r with rfl | hne
  · have hold : s.hasPlace r' = true := by simpa [State.hasPlace, hstate, hpending] using hplace
    simpa [State.nextProducer, hpointer] using hi.settled r' hold
  · have hring : (s.modRing r f).ring r' = s.ring r' := State.modRing_ring_other s r r' f hne
    have hold : s.hasPlace r' = true := by simpa [State.hasPlace, hring] using hplace
    simpa [State.nextProducer, hring] using hi.settled r' hold

/-! ### The obligation -/

/-- Settles O18: a refused release is its log event, a taken one is releaseTo on its ring, in the cases of R135. -/
theorem releaseTaken : Obligations.ReleaseTaken := by
  intro s w r hr hp hsel x h d refused
  have hexec : exec (.release w) s = .next (s.release r h).acceptOffers := exec_release_of_selected hr hp hsel
  have hrefused : x.refusesRelease h = true ↔ refused := StatusRing.refusesRelease_iff h
  refine ⟨fun href => by rw [hexec, State.release_of_refused (hrefused.2 href)], fun htaken hi => ?_⟩
  have hnext : exec (.release w) s = .next (s.modRing r (StatusRing.releaseTo · h)) := by
    rw [hexec, State.release_of_taken (htaken ∘ hrefused.1),
      State.acceptOffers_modRing hi r (StatusRing.releaseTo_accepting h)]
  have hring : (s.modRing r (StatusRing.releaseTo · h)).ring r = x.releaseTo h := State.modRing_ring_self s r _
  refine ⟨_, hnext, State.modRing_frame r _, fun r' hne => State.modRing_ring_other s r r' _ hne, ?_⟩
  rw [hring]
  intro y
  refine ⟨?_, fun ha hm hu => ?_, fun ha hm hu => ?_⟩
  · rintro (hfailed | hm)
    · exact StatusRing.releaseTo_of_not_active h (by simp [hfailed])
    · exact StatusRing.releaseTo_of_no_message h hm
  · exact (StatusRing.releaseTo_of_active h ha).trans (StatusRing.noteRelease_of_unreleased hm hu)
  · exact (StatusRing.releaseTo_of_active h ha).trans (StatusRing.noteRelease_of_all_released hm hu)

end Sys2Proof.Machine
end

section
/-! SUPPORT. Control ring notifies (R162, R163, R196): why one is refused, what a taken one does to the control
processor, and that nothing is accepted after it. -/

namespace Sys2Proof.Machine

variable {s : State} {c : Control}

/-! ### The selector -/

/-- In RUNNING a notify with selector 8 goes to the control processor (R196). -/
theorem exec_controlRingNotify_of_control {w : Word} (hr : s.resetHeld = false) (hp : s.partState = .running)
    (h : writtenSelector w = 8) :
    exec (.controlRingNotify w) s = .next (s.notifyControl (writtenValue w)).acceptOffers := by
  rw [exec_controlRingNotify, execControlRingNotify, State.live_of_released hr]
  simp [State.writeRingNotify, hp, selected_of_control h]

/-! ### Refusals, in the order of R162 -/

theorem Control.notifyRefusal_of_range {v : Nat} (hv : c.size ≤ v) : c.notifyRefusal v = some .notifyRange := by
  simp [Control.notifyRefusal, hv]

theorem Control.notifyRefusal_of_retract {v : Nat} (hv : v < c.size)
    (hd : ringDist c.size c.head v < c.fetchedCount) : c.notifyRefusal v = some .notifyRetract := by
  simp [Control.notifyRefusal, Nat.not_le.2 hv, hd]

theorem Control.notifyRefusal_eq_none {v : Nat} (hv : v < c.size)
    (hd : ¬ringDist c.size c.head v < c.fetchedCount) : c.notifyRefusal v = none := by
  simp [Control.notifyRefusal, Nat.not_le.2 hv, hd]

theorem State.notifyControl_of_refused {v : Nat} {code : Code} (h : s.control.notifyRefusal v = some code) :
    s.notifyControl v = s.logEvent
      { cls := .register, code := code, source := .control, tag := none, address := none,
        detail := some (BitVec.ofNat 32 v) } := by
  simp [State.notifyControl, h]

/-! ### A notify that is taken (R163) -/

theorem State.notifyControl_of_not_posting {v : Nat} (h : s.control.notifyRefusal v = none)
    (hposts : ¬(s.control.state = .idle ∧ 0 < ringDist s.control.size s.control.head v)) :
    s.notifyControl v = s.modControl fun c => { c with tail := v } := by
  rw [State.notifyControl, h]
  exact if_neg fun ⟨_, hposted⟩ => hposts hposted

/-- A notify that posts a command to an IDLE processor offers its fetch. -/
theorem State.notifyControl_of_posting {v : Nat} (hp : s.partState = .running)
    (h : s.control.notifyRefusal v = none)
    (hposts : s.control.state = .idle ∧ 0 < ringDist s.control.size s.control.head v) :
    s.notifyControl v =
      s.modControl fun c => { c with tail := v, state := .fetching, fetched := (c.fetched + 1) % c.size } := by
  rw [State.notifyControl, h]
  exact if_pos ⟨hp, hposts⟩

/-! ### The acceptance after it -/

/-- After a change to the control processor that leaves its RESULT offer nothing is accepted. -/
theorem State.acceptOffers_modControl (hi : s.OfferInv) {f : Control → Control}
    (hf : (f s.control).resultOffer = s.control.resultOffer) : (s.modControl f).acceptOffers = s.modControl f := by
  refine State.acceptOffers_of_settled fun r hplace => ?_
  have hnext : (s.modControl f).nextProducer r = s.nextProducer r :=
    State.nextProducer_congr r (fun _ => rfl) (fun _ => rfl) hf rfl (State.modControl_ring s f r)
  rw [hnext]
  exact hi.settled r (by simpa [State.hasPlace] using hplace)

/-! ### The obligation -/

/-- Settles O16, a case for each line of R162's table; a taken notify moves the tail, and where it posts to an IDLE
processor the fetch is offered too. -/
theorem controlNotify : Obligations.ControlNotify := by
  intro s w hr hp hsel c v event retracts posts
  have hexec : exec (.controlRingNotify w) s = .next (s.notifyControl v).acceptOffers :=
    exec_controlRingNotify_of_control hr hp hsel
  have refused {code : Code} (h : c.notifyRefusal v = some code) :
      exec (.controlRingNotify w) s = .next (s.logEvent (event code)).acceptOffers := by
    rw [hexec, State.notifyControl_of_refused h]
  have taken (hv : v < c.size) (hd : ¬retracts) : c.notifyRefusal v = none := Control.notifyRefusal_eq_none hv hd
  refine ⟨fun hv => refused (Control.notifyRefusal_of_range hv),
    fun hv hd => refused (Control.notifyRefusal_of_retract hv hd), fun hv hd hposts hi => ?_,
    fun hv hd hposts hi => ?_⟩
  · rw [hexec, State.notifyControl_of_not_posting (taken hv hd) hposts, State.acceptOffers_modControl hi rfl]
    rfl
  · rw [hexec, State.notifyControl_of_posting hp (taken hv hd) hposts, State.acceptOffers_modControl hi rfl]
    rfl

end Sys2Proof.Machine
end

section
/-! SUPPORT. A command record that arrives for the fetch that the control processor awaits (R163, R165): the part as the
command finds it, its target, and the ranges that the records of several commands share. -/

namespace Sys2Proof.Machine

variable {s : State} {tag : BusNo} {c : Vector Byte 32} {lv : Levels}

/-! ### The part as a command is taken -/

theorem State.Awaits.sense (h : s.Awaits tag) (lv : Levels) : (s.sense lv).Awaits tag := h

/-- A command acts on the part with its record taken, and what it offers is accepted in the same event (R128, R163). -/
theorem State.sensed_commandRead (h : s.Awaits tag) (c : Vector Byte 32) (lv : Levels) (act : State → State) :
    s.sensed lv (·.commandRead tag c act) = (act (s.taken tag c lv)).acceptOffers := by
  have ⟨⟨hreset, _⟩, _⟩ := h
  rw [State.sensed_of_released hreset, State.commandRead_of_awaits (h.sense lv)]
  rfl

@[simp] theorem State.taken_ring (r : RingId) : (s.taken tag c lv).ring r = s.ring r := by
  simp [State.taken, State.freed]

/-! ### The target (check 2 of R165) -/

theorem cmdTarget_of_link {n : LinkId} (h : leField c 1 1 = n) : cmdTarget c = some n := by
  simp [cmdTarget, h]

theorem cmdTarget_of_out_of_range (h : 4 ≤ leField c 1 1) : cmdTarget c = none := by
  simp [cmdTarget, Nat.not_lt.2 h]

/-- A command with a target of 0 to 3 acts on that link or ring. -/
theorem State.sensed_targetCommand {n : LinkId} (h : s.Awaits tag) (hn : leField c 1 1 = n) (lv : Levels)
    (act : State → LinkId → State) :
    s.sensed lv (·.commandRead tag c fun s => s.withTarget c (act s)) =
      (act (s.taken tag c lv) n).acceptOffers := by
  rw [State.sensed_commandRead h, State.withTarget, cmdTarget_of_link hn]

/-- A command with another target is refused. -/
theorem State.sensed_targetCommand_of_out_of_range (h : s.Awaits tag) (hn : 4 ≤ leField c 1 1) (lv : Levels)
    (act : State → LinkId → State) :
    s.sensed lv (·.commandRead tag c fun s => s.withTarget c (act s)) =
      ((s.taken tag c lv).endCommand .refusedRange).acceptOffers := by
  rw [State.sensed_commandRead h, State.withTarget, cmdTarget_of_out_of_range hn]

/-! ### Shared ranges -/

theorem powerOfTwoIn_iff {a b x : Nat} (hb : b ≤ 10) :
    powerOfTwoIn (2 ^ a) (2 ^ b) x = true ↔ ∃ k, a ≤ k ∧ k ≤ b ∧ x = 2 ^ k := by
  simp only [powerOfTwoIn, Bool.and_eq_true, List.any_eq_true, List.mem_range, beq_iff_eq, decide_eq_true_eq]
  constructor
  · rintro ⟨⟨⟨k, -, rfl⟩, hlo⟩, hhi⟩
    exact ⟨k, (Nat.pow_le_pow_iff_right (by omega)).1 hlo, (Nat.pow_le_pow_iff_right (by omega)).1 hhi, rfl⟩
  · rintro ⟨k, hlo, hhi, rfl⟩
    exact ⟨⟨⟨k, by omega, rfl⟩, Nat.pow_le_pow_right (by omega) hlo⟩, Nat.pow_le_pow_right (by omega) hhi⟩

/-- A ring with a slot has a base in reach where its end is. -/
theorem ringBaseOk_iff {base size slotBytes : Nat} (h : 0 < slotBytes * size) :
    ringBaseOk base size slotBytes = true ↔ base % 64 = 0 ∧ base + slotBytes * size ≤ 2 ^ 48 := by
  simp only [ringBaseOk, inReach, Bool.and_eq_true, beq_iff_eq, decide_eq_true_eq]
  unfold Config.reach
  omega

theorem messageAddrOk_iff {a : Nat} : messageAddrOk a = true ↔ a % 4 = 0 ∧ a < 2 ^ 48 := by
  simp only [messageAddrOk, Bool.and_eq_true, beq_iff_eq, decide_eq_true_eq]
  rfl

end Sys2Proof.Machine
end

section
/-! SUPPORT. CREATE STATUS RING and DELETE STATUS RING (R124, R168, R169): their checks, and what a deletion leaves of a
ring and of its outstanding writes. -/

namespace Sys2Proof.Machine

variable {s : State} {n : LinkId} {c : Vector Byte 32}

/-! ### Creation -/

/-- The fields of CREATE STATUS RING are in range (R168). -/
def statusRingFieldsOk (c : Vector Byte 32) : Bool :=
  powerOfTwoIn 16 1024 (leField c 4 2) && ringBaseOk (leField c 8 8) (leField c 4 2) 16 &&
    messageAddrOk (leField c 16 8) && !(decide (leField c 6 1 < 1) || decide (32 < leField c 6 1))

theorem statusRingFieldsOk_iff : statusRingFieldsOk c = true ↔
    (∃ k, 4 ≤ k ∧ k ≤ 10 ∧ leField c 4 2 = 2 ^ k) ∧ leField c 8 8 % 64 = 0 ∧
      leField c 8 8 + 16 * leField c 4 2 ≤ 2 ^ 48 ∧ leField c 16 8 % 4 = 0 ∧ leField c 16 8 < 2 ^ 48 ∧
      1 ≤ leField c 6 1 ∧ leField c 6 1 ≤ 32 := by
  have hpower : powerOfTwoIn 16 1024 (leField c 4 2) = true ↔ ∃ k, 4 ≤ k ∧ k ≤ 10 ∧ leField c 4 2 = 2 ^ k :=
    powerOfTwoIn_iff (a := 4) (b := 10) le_rfl
  simp only [statusRingFieldsOk, Bool.and_eq_true, Bool.not_eq_true', Bool.or_eq_false_iff, decide_eq_false_iff_not,
    not_lt, messageAddrOk_iff, hpower, and_assoc]
  refine and_congr_right fun ⟨_, _, _, hsize⟩ => ?_
  rw [ringBaseOk_iff (by rw [hsize]; positivity), and_assoc]

theorem State.createStatusRingRefusal_of_present (h : (s.ring (.s n)).state ≠ .absent) :
    s.createStatusRingRefusal n c = some .refusedState := by
  simp [State.createStatusRingRefusal, h]

/-- On an ABSENT ring the fields decide. -/
theorem State.createStatusRingRefusal_of_absent (h : (s.ring (.s n)).state = .absent) :
    s.createStatusRingRefusal n c = if statusRingFieldsOk c then none else some .refusedRange := by
  rw [State.createStatusRingRefusal, if_neg (not_not.2 h), statusRingFieldsOk]
  cases powerOfTwoIn 16 1024 (leField c 4 2)
  · simp
  cases ringBaseOk (leField c 8 8) (leField c 4 2) 16
  · simp
  cases messageAddrOk (leField c 16 8)
  · simp
  cases decide (leField c 6 1 < 1) || decide (32 < leField c 6 1) <;> rfl

theorem State.createStatusRing_of_refused {o : Code} (h : s.createStatusRingRefusal n c = some o) :
    s.createStatusRing n c = s.endCommand o := by
  simp [State.createStatusRing, h]

theorem State.createStatusRing_of_taken (h : s.createStatusRingRefusal n c = none) :
    s.createStatusRing n c = (s.modRing (.s n) fun _ =>
      StatusRing.create (leField c 8 8) (leField c 4 2) (leField c 16 8) (leField c 24 4) (leField c 6 1)
        (leField c 7 1)).endCommand .ok := by
  simp [State.createStatusRing, h]

/-- Settles O25: the target decides the ring, the ring's state and then the fields decide the outcome (R165, R168). -/
theorem statusRingCreated : Obligations.StatusRingCreated := by
  intro s tag c lv hawaits ok
  refine ⟨fun htarget => congrArg _ (State.sensed_targetCommand_of_out_of_range hawaits htarget lv _),
    fun n htarget => ?_⟩
  have hexec : exec (.createStatusRing tag c lv) s = .next ((s.taken tag c lv).createStatusRing n c).acceptOffers :=
    congrArg _ (State.sensed_targetCommand hawaits htarget lv _)
  have hring : (s.taken tag c lv).ring (.s n) = s.ring (.s n) := State.taken_ring _
  have hok : statusRingFieldsOk c = true ↔ ok := statusRingFieldsOk_iff
  rw [hexec]
  refine ⟨fun hstate => ?_, fun hstate hfields => ?_, fun hstate hfields => ?_⟩
  · rw [State.createStatusRing_of_refused (State.createStatusRingRefusal_of_present (by rwa [hring]))]
  · rw [State.createStatusRing_of_refused]
    rw [State.createStatusRingRefusal_of_absent (by rwa [hring]), if_neg (mt hok.1 hfields)]
  · rw [State.createStatusRing_of_taken]
    · rfl
    · rw [State.createStatusRingRefusal_of_absent (by rwa [hring]), if_pos (hok.2 hfields)]

/-! ### Deletion -/

theorem State.deleteStatusRingRefusal_of_absent (h : (s.ring (.s n)).state = .absent) :
    s.deleteStatusRingRefusal n = some .refusedState := by
  simp [State.deleteStatusRingRefusal, h]

theorem mem_allLinks (m : LinkId) : m ∈ allLinks := by
  revert m; decide

/-- A bound ring unit reports to status ring Sn. -/
theorem State.any_reports_iff : (allLinks.any fun m => (s.unit m).bound && (s.unit m).statusRing == some n) = true ↔
    ∃ m, (s.unit m).bound = true ∧ (s.unit m).statusRing = some n := by
  simp [mem_allLinks]

theorem State.deleteStatusRingRefusal_of_in_use (h : (s.ring (.s n)).state ≠ .absent)
    (hm : ∃ m, (s.unit m).bound = true ∧ (s.unit m).statusRing = some n) :
    s.deleteStatusRingRefusal n = some .refusedInUse := by
  rw [State.deleteStatusRingRefusal, if_neg h, if_pos (State.any_reports_iff.2 hm)]

theorem State.deleteStatusRingRefusal_eq_none (h : (s.ring (.s n)).state ≠ .absent)
    (hm : ∀ m, (s.unit m).bound = true → (s.unit m).statusRing ≠ some n) :
    s.deleteStatusRingRefusal n = none := by
  rw [State.deleteStatusRingRefusal, if_neg h, if_neg]
  rw [State.any_reports_iff]
  exact fun ⟨m, hbound, hring⟩ => hm m hbound hring

theorem State.deleteStatusRing_of_refused {o : Code} (h : s.deleteStatusRingRefusal n = some o) :
    s.deleteStatusRing n = s.endCommand o := by
  simp [State.deleteStatusRing, h]

theorem State.deleteStatusRing_of_taken (h : s.deleteStatusRingRefusal n = none) :
    s.deleteStatusRing n = (s.deleteRing n).endCommand .ok := by
  simp [State.deleteStatusRing, h]

/-- A deletion moves the rings as the change of one ring does. -/
theorem State.deleteRing_ring (n : LinkId) (r : RingId) :
    (s.deleteRing n).ring r = (s.modRing (.s n) fun _ => StatusRing.reset).ring r := by
  cases r <;> rfl

theorem State.deleteRing_ring_self (n : LinkId) : (s.deleteRing n).ring (.s n) = StatusRing.reset := by
  rw [State.deleteRing_ring, State.modRing_ring_self]

theorem State.deleteRing_ring_other {r : RingId} (h : r ≠ .s n) : (s.deleteRing n).ring r = s.ring r := by
  rw [State.deleteRing_ring, State.modRing_ring_other s (.s n) r _ h]

theorem State.deleteRing_recordsDiscarded (n : LinkId) : (s.deleteRing n).recordsDiscarded =
    addCounter s.recordsDiscarded (s.ring (.s n)).pending.length := rfl

/-- A deletion changes nothing of the links, the lines and the control processor. -/
theorem State.deleteRing_unchanged (n : LinkId) : (s.deleteRing n).links = s.links ∧
    (s.deleteRing n).units = s.units ∧ (s.deleteRing n).lines = s.lines ∧ (s.deleteRing n).control = s.control :=
  ⟨rfl, rfl, rfl, rfl⟩

theorem State.deleteRing_writeSlot (n : LinkId) (i : BusNo) : ((s.deleteRing n).writeSlot i).route =
    (s.writeSlot i).route.map (Route.orphan (.s n)) := by
  simp [State.deleteRing, State.writeSlot]

/-- A route that leads to a ring leads elsewhere, or nowhere, once the ring is deleted (R124). -/
theorem Route.orphan_ne_live (r : RingId) (x : Route) :
    (∀ k, x.orphan r ≠ .status r k true) ∧ x.orphan r ≠ .message r true := by
  cases x <;> simp +contextual [Route.orphan]

theorem State.deleteRing_routes (n : LinkId) (i : BusNo) (k : Nat) :
    ((s.deleteRing n).writeSlot i).route ≠ some (.status (.s n) k true) ∧
      ((s.deleteRing n).writeSlot i).route ≠ some (.message (.s n) true) := by
  rw [State.deleteRing_writeSlot]
  cases (s.writeSlot i).route with
  | none => simp
  | some x =>
    obtain ⟨hstatus, hmessage⟩ := Route.orphan_ne_live (.s n) x
    simp [hstatus, hmessage]

/-- Settles O26: the target decides the ring, its state and who reports to it decide the outcome (R165, R169), and a
deletion is deleteRing. -/
theorem statusRingDeleted : Obligations.StatusRingDeleted := by
  intro s tag c lv hawaits
  refine ⟨fun htarget => congrArg _ (State.sensed_targetCommand_of_out_of_range hawaits htarget lv _),
    fun n htarget => ?_⟩
  have hexec : exec (.deleteStatusRing tag c lv) s = .next ((s.taken tag c lv).deleteStatusRing n).acceptOffers :=
    congrArg _ (State.sensed_targetCommand hawaits htarget lv _)
  have hring (r : RingId) : (s.taken tag c lv).ring r = s.ring r := State.taken_ring r
  rw [hexec]
  refine ⟨fun hstate => ?_, fun hstate hbound => ?_, fun hstate hbound => ?_⟩
  · rw [State.deleteStatusRing_of_refused (State.deleteStatusRingRefusal_of_absent (by rwa [hring]))]
  · rw [State.deleteStatusRing_of_refused
      (State.deleteStatusRingRefusal_of_in_use (s := s.taken tag c lv) (by rwa [hring]) hbound)]
  · rw [State.deleteStatusRing_of_taken
      (State.deleteStatusRingRefusal_eq_none (s := s.taken tag c lv) (by rwa [hring]) hbound)]
    have ⟨hlinks, hunits, hlines, hcontrol⟩ := State.deleteRing_unchanged (s := s.taken tag c lv) n
    refine ⟨(s.taken tag c lv).deleteRing n, rfl, State.deleteRing_ring_self n, ?_, fun r hr => ?_, hlinks, hunits,
      hlines, hcontrol, State.deleteRing_routes n⟩
    · rw [State.deleteRing_recordsDiscarded, hring]
      rfl
    · rw [State.deleteRing_ring_other hr, hring]

end Sys2Proof.Machine
end

section
/-! SUPPORT. Writes to RING_NOTIFY and STATUS_RELEASE (R196): that they have no effect outside RUNNING, and what one
does whose selector names no ring. -/

namespace Sys2Proof.Machine

variable {s : State} {w : Word}

/-! ### The registers -/

theorem exec_registerWrite_ringNotify : exec (.registerWrite 0x14 4 w) s = exec (.transferRingNotify w) s := rfl

theorem exec_registerWrite_statusRelease : exec (.registerWrite 0x18 4 w) s = exec (.release w) s := rfl

/-! ### Outside RUNNING -/

/-- Outside RUNNING an event that does nothing itself leaves the part as it is, offers and all. -/
theorem State.live_of_ignored {f : State → State} (hr : s.resetHeld = false) (hp : s.partState ≠ .running)
    (hf : f s = s) : s.live f = s := by
  rw [State.live_of_released hr, hf, State.acceptOffers_of_not_running hp]

theorem State.writeRingNotify_of_not_running (hp : s.partState ≠ .running) : s.writeRingNotify w = s := if_neg hp

theorem State.writeStatusRelease_of_not_running (hp : s.partState ≠ .running) : s.writeStatusRelease w = s :=
  if_neg hp

/-! ### A selector that names no ring -/

theorem selected_of_bad (h4 : 4 ≤ writtenSelector w) (h8 : writtenSelector w ≠ 8) : selected w = .bad := by
  simp [selected, Nat.not_lt.2 h4, h8]

theorem State.writeRingNotify_of_bad (hp : s.partState = .running) (h : selected w = .bad) :
    s.writeRingNotify w = s.logEvent (selectorEvent .notifyRange w) := by
  simp [State.writeRingNotify, hp, h]

theorem State.writeStatusRelease_of_bad (hp : s.partState = .running) (h : selected w = .bad) :
    s.writeStatusRelease w = s.logEvent (selectorEvent .releaseRange w) := by
  simp [State.writeStatusRelease, hp, h]

/-! ### The obligation -/

/-- Settles O17: outside RUNNING neither register acts, and in RUNNING the selector decides, a transfer ring's, the
control ring's, or one that names no ring. -/
theorem selectorsRouted : Obligations.SelectorsRouted := by
  intro s w hr v selector event
  refine ⟨fun t => by rw [exec_registerWrite_ringNotify], fun t => by rw [exec_registerWrite_statusRelease],
    fun hp => ?_, fun n hp hn => ?_, fun hp h8 => ?_, fun hp h4 h8 => ?_⟩
  · have hnotify : s.live (·.writeRingNotify w) = s :=
      State.live_of_ignored hr hp (State.writeRingNotify_of_not_running hp)
    have hrelease : s.live (·.writeStatusRelease w) = s :=
      State.live_of_ignored hr hp (State.writeStatusRelease_of_not_running hp)
    exact ⟨congrArg _ hnotify, congrArg _ hnotify, congrArg _ hnotify, congrArg _ hrelease, congrArg _ hrelease⟩
  · exact ⟨exec_transferRingNotify_of_transfer hr hp hn, exec_release_of_selected hr hp (.inl ⟨n, rfl, hn⟩)⟩
  · exact ⟨exec_controlRingNotify_of_control hr hp h8, exec_release_of_selected hr hp (.inr ⟨rfl, h8⟩)⟩
  · have hbad : selected w = .bad := selected_of_bad h4 h8
    rw [exec_notifyBadSelector, execNotifyBadSelector, exec_releaseBadSelector, execReleaseBadSelector,
      State.live_of_released hr, State.live_of_released hr, State.writeRingNotify_of_bad hp hbad,
      State.writeStatusRelease_of_bad hp hbad]
    exact ⟨rfl, rfl⟩

end Sys2Proof.Machine
end

section
/-! SUPPORT. The return to DORMANT (R187, R192, R199): what winding down leaves of it, what the exhaustions noted at its
end may change, and that the end of the settle wait is such a return. -/

namespace Sys2Proof.Machine

variable {s t u : State}

/-! ### Winding down (R61, R85) -/

/-- What no act of a list changes is the same after all of them. -/
theorem State.forEach_eq {α β : Type} (g : State → β) {f : State → α → State} (hf : ∀ u a, g (f u a) = g u)
    (l : List α) (s : State) : g (forEach f l s) = g s :=
  (State.forEach_iff (P := fun u => g u = g s) f (fun u a => by rw [hf]) l s).2 rfl

/-- Of a line only the data bytes outlast the return to DORMANT (R62). -/
theorem State.settled_modLine (i : LineId) {f : Line → Line} (hf : ∀ x, (f x).data = x.data) :
    (s.modLine i f).settled = s.settled := by
  simp only [State.settled, State.modLine_startAddr, State.modLine_pins, State.modLine_errorLog,
    State.modLine_readTags, State.modLine_writeSlots, State.modLine_readExhausted, State.modLine_writeExhausted,
    State.modLine_openValues, State.modLine_pending]
  congr 1
  ext j hj : 1
  by_cases h : (i : Nat) = j
  · subst h
    simp [State.modLine, State.line, hf]
  · simp [State.modLine, h]

@[simp] theorem State.settled_modLink (n : LinkId) (f : Link → Link) : (s.modLink n f).settled = s.settled := rfl

@[simp] theorem State.settled_freeLine (i : LineId) : (s.freeLine i).settled = s.settled := by
  unfold State.freeLine
  split <;> exact State.settled_modLine i fun _ => rfl

/-- What a halt or soft reset can do to a line (R61). -/
theorem State.haltLine_cases (i : LineId) : s.haltLine i = s ∨ s.haltLine i = s.freeLine i ∨
    s.haltLine i = s.modLine i fun x => { x with state := .discardPending } := by
  unfold State.haltLine
  dsimp only
  cases (s.line i).state with
  | free | discardPending | storing => exact .inl rfl
  | ready | failed | gathering | sealed => exact .inr (.inl rfl)
  | filling => exact .inr (ite_eq_or_eq _ _ _).symm
  | draining => exact (ite_eq_or_eq _ _ _).imp_right .inl

@[simp] theorem State.settled_haltLine (i : LineId) : (s.haltLine i).settled = s.settled := by
  obtain h | h | h := State.haltLine_cases (s := s) i
  · rw [h]
  · rw [h, State.settled_freeLine]
  · rw [h]
    exact State.settled_modLine i fun _ => rfl

@[simp] theorem State.settled_countSent (n : LinkId) : (s.countSent n).settled = s.settled := by
  unfold State.countSent
  dsimp only
  split
  · split
    · exact State.settled_modLine _ fun _ => rfl
    · exact State.settled_freeLine _
  · rfl

@[simp] theorem State.settled_stopByte (n : LinkId) : (s.stopByte n).settled = s.settled := by
  unfold State.stopByte
  split <;> simp

@[simp] theorem State.onlyLinks_haltLine (i : LineId) : s.OnlyLinks (t.haltLine i) ↔ s.OnlyLinks t := by
  obtain h | h | h := State.haltLine_cases (s := t) i <;> simp [h]

theorem State.OnlyLinks.anyBusy (h : s.OnlyLinks t) : t.anyBusy = s.anyBusy := (congrArg State.anyBusy h :)

/-- The part as winding down has stopped the bytes and settled the lines. -/
def State.linesHalted (s : State) : State := forEach State.haltLine allLines (forEach State.stopByte allLinks s)

theorem State.settled_linesHalted : s.linesHalted.settled = s.settled :=
  calc s.linesHalted.settled
      = (forEach State.stopByte allLinks s).settled := State.forEach_eq _ (fun _ => State.settled_haltLine) _ _
    _ = s.settled := State.forEach_eq _ (fun _ => State.settled_stopByte) _ _

theorem State.onlyLinks_linesHalted : s.OnlyLinks s.linesHalted :=
  (State.forEach_iff _ (fun _ => State.onlyLinks_haltLine) _ _).2
    ((State.forEach_iff _ (fun _ => State.onlyLinks_stopByte) _ _).2 (State.onlyLinks_refl s))

/-- What winding down drops besides. -/
def State.dropWork (s : State) : State :=
  { s with
    startRead := none, links := s.links.map Link.halt, units := s.units.map RingUnit.halt
    sc := { s.sc with modTimer := none }, sRings := s.sRings.map fun x => { x with modTimer := none }
    control := { s.control with resultOffer := none }, notices := [] }

theorem State.windDown_eq : s.windDown = s.linesHalted.dropWork := by
  unfold State.windDown State.dropWork State.linesHalted
  rfl

theorem State.settled_dropWork : s.dropWork.settled = s.settled := rfl

theorem State.anyBusy_dropWork : s.dropWork.anyBusy = s.anyBusy := rfl

/-- The return to DORMANT keeps nothing that winding down changes. -/
theorem State.settled_windDown : s.windDown.settled = s.settled := by
  rw [State.windDown_eq, State.settled_dropWork, State.settled_linesHalted]

/-- Winding down ends no request (R192). -/
theorem State.anyBusy_windDown : s.windDown.anyBusy = s.anyBusy := by
  rw [State.windDown_eq, State.anyBusy_dropWork, State.onlyLinks_linesHalted.anyBusy]

/-! ### The exhaustions noted at its end (R187) -/

/-- t is s as exhaustions have been noted in a part that does not run: flags may have been set, and where none has been,
nothing is logged. -/
structure State.NotesExhaustion (s t : State) : Prop where
  frame : t = { s with
    errorLog := t.errorLog, readExhausted := t.readExhausted, writeExhausted := t.writeExhausted
    openValues := t.openValues }
  kept : ∀ k, s.exhausted k = true → t.exhausted k = true
  silent : (∀ k, t.exhausted k = s.exhausted k) → t.errorLog = s.errorLog

theorem State.NotesExhaustion.partState (h : s.NotesExhaustion t) : t.partState = s.partState :=
  (congrArg State.partState h.frame :)

/-- A flag that stands as it was after all has stood so between. -/
theorem exhausted_between {a b c : Bool} (hab : a = true → b = true) (hbc : b = true → c = true) (hca : c = a) :
    b = a := by
  cases a with
  | true => exact hab rfl
  | false => exact Bool.eq_false_iff.2 fun hb => absurd (hbc hb) (by simp [hca])

theorem State.NotesExhaustion.trans (h : s.NotesExhaustion t) (k : t.NotesExhaustion u) : s.NotesExhaustion u where
  frame := k.frame.trans (by rw [h.frame])
  kept i hi := k.kept i (h.kept i hi)
  silent hu := by
    have ht (i : BusKind) : t.exhausted i = s.exhausted i := exhausted_between (h.kept i) (k.kept i) (hu i)
    rw [k.silent fun i => (hu i).trans (ht i).symm, h.silent ht]

/-- Outside RUNNING an error event reaches the log alone (R159). -/
theorem State.logEvent_of_not_running (hp : s.partState ≠ .running) (e : ErrorEvent) :
    s.logEvent e = { s with errorLog := (s.logEvent e).errorLog } := by
  unfold State.logEvent
  split <;> simp [hp]

theorem State.exhausted_logEvent (e : ErrorEvent) (k : BusKind) : (s.logEvent e).exhausted k = s.exhausted k := by
  cases k
  · exact State.logEvent_readExhausted s e
  · exact State.logEvent_writeExhausted s e

theorem State.exhausted_setExhausted (j k : BusKind) (b : Bool) :
    (s.setExhausted j b).exhausted k = if k = j then b else s.exhausted k := by
  cases j <;> cases k <;> rfl

theorem State.notesExhaustion_noteExhaustion (hp : s.partState ≠ .running) (j : BusKind) :
    s.NotesExhaustion (s.noteExhaustion j) := by
  unfold State.noteExhaustion
  split
  next hexhausts =>
    have hclear : s.exhausted j = false := by
      simp only [State.exhausts, Bool.and_eq_true, Bool.not_eq_true'] at hexhausts
      exact hexhausts.2
    refine ⟨?_, fun k hk => ?_, fun hsame => ?_⟩
    · rw [State.logEvent_of_not_running (by simpa using hp)]
      cases j <;> rfl
    · rw [State.exhausted_logEvent, State.exhausted_setExhausted]
      split
      · rfl
      · exact hk
    · have hset := hsame j
      rw [State.exhausted_logEvent, State.exhausted_setExhausted, if_pos rfl, hclear] at hset
      exact absurd hset (by decide)
  next => exact ⟨rfl, fun _ h => h, fun _ => rfl⟩

theorem State.notesExhaustion_both (hp : s.partState ≠ .running) (j k : BusKind) :
    s.NotesExhaustion ((s.noteExhaustion j).noteExhaustion k) := by
  have hfirst : s.NotesExhaustion (s.noteExhaustion j) := State.notesExhaustion_noteExhaustion hp j
  exact hfirst.trans (State.notesExhaustion_noteExhaustion (by rwa [hfirst.partState]) k)

/-! ### The end of the settle wait (R199) -/

theorem State.settled_partState : s.settled.partState = .dormant := rfl

/-- The end of the settle wait does no more than note exhaustions, in either order (R159). -/
theorem State.notesExhaustion_endSettle : s.settled.NotesExhaustion s.endSettle := by
  have hp : s.settled.partState ≠ .running := by simp [State.settled_partState]
  unfold State.endSettle inEitherOrder
  dsimp only
  split
  · have hopen : s.settled.NotesExhaustion { s.settled with openValues := s.settled.openValues + 1 } :=
      ⟨rfl, fun _ h => h, fun _ => rfl⟩
    split <;> exact hopen.trans (State.notesExhaustion_both (by rwa [hopen.partState]) _ _)
  · exact State.notesExhaustion_both hp _ _

theorem State.settled_ident (k : BusKind) (i : BusNo) : s.settled.ident k i = (s.ident k i).settle := by
  cases k <;> simp [State.settled, State.ident, State.readTag, State.writeSlot]

theorem Ident.settle_of_free {x : Ident} (h : x.state = .free) : x.settle = Ident.reset := by
  simp [Ident.settle, h]

theorem Ident.settle_of_not_free {x : Ident} (h : x.state ≠ .free) :
    x.settle.state = .stale ∧ x.settle.address = x.address ∧ x.settle.length = x.length := by
  cases hx : x.state with
  | free => exact absurd hx h
  | busy => simp [Ident.settle, hx]
  | stale => simp [Ident.settle, hx]

theorem State.dormantFrom_settled : s.DormantFrom s.settled where
  partState := ⟨rfl, rfl, rfl, rfl⟩
  links n := by simp [State.settled, State.reset, State.link, State.unit]
  rings r := by cases r <;> simp [State.settled, State.reset, State.ring]
  control := ⟨rfl, rfl⟩
  pool := ⟨rfl, fun i => by simp [State.settled, State.line]⟩
  counters := ⟨rfl, rfl⟩
  pointers := rfl
  kept := ⟨rfl, rfl⟩
  idents k i := by
    rw [State.settled_ident]
    exact ⟨Ident.settle_of_free, Ident.settle_of_not_free⟩
  exhausted k h := by cases k <;> exact h
  errorLog _ := rfl

/-- Exhaustions noted after a return to DORMANT leave it one. -/
theorem State.DormantFrom.notes (h : s.DormantFrom t) (k : t.NotesExhaustion u) : s.DormantFrom u := by
  obtain ⟨partState, links, rings, control, pool, counters, pointers, kept, idents, exhausted, errorLog⟩ := h
  have hexhausted (i : BusKind) (hi : s.exhausted i = true) : u.exhausted i = true := k.kept i (exhausted i hi)
  have hlog (hu : ∀ i, u.exhausted i = s.exhausted i) : u.errorLog = s.errorLog := by
    have ht (i : BusKind) : t.exhausted i = s.exhausted i := exhausted_between (exhausted i) (k.kept i) (hu i)
    rw [k.silent fun i => (hu i).trans (ht i).symm, errorLog ht]
  have hring (r : RingId) : u.ring r = t.ring r := by rw [k.frame]; cases r <;> rfl
  have hident (b : BusKind) (i : BusNo) : u.ident b i = t.ident b i := by rw [k.frame]; cases b <;> rfl
  exact {
    partState := by rw [k.frame]; exact partState
    links := by rw [k.frame]; exact links
    rings := fun r => by rw [hring, rings]
    control := by rw [k.frame]; exact control
    pool := by rw [k.frame]; exact pool
    counters := by rw [k.frame]; exact counters
    pointers := by rw [k.frame]; exact pointers
    kept := by rw [k.frame]; exact kept
    idents := fun b i => by rw [hident]; exact idents b i
    exhausted := hexhausted
    errorLog := hlog }

/-- The settle wait ends in DORMANT (R199). -/
theorem State.dormantFrom_endSettle : s.DormantFrom s.endSettle :=
  State.dormantFrom_settled.notes State.notesExhaustion_endSettle

/-- The end of the settle wait depends on nothing but what the return to DORMANT keeps. -/
theorem State.endSettle_congr (h : t.settled = s.settled) : t.endSettle = s.endSettle := by
  unfold State.endSettle
  rw [h]

theorem State.checkSettle_of_busy (hb : s.anyBusy = true) : s.checkSettle = s := by
  simp [State.checkSettle, hb]

theorem State.checkSettle_of_idle (hp : s.partState = .resetting) (hb : s.anyBusy = false) :
    s.checkSettle = s.endSettle := by
  simp [State.checkSettle, hp, hb]

/-! ### RESETTING entered (R199) -/

/-- The settle wait started, in RESETTING. -/
def State.startSettle (s : State) : State :=
  { s with partState := .resetting, haltCause := .none, settleTimer := some Config.settleLimit }

theorem State.settled_startSettle : s.startSettle.settled = s.settled := rfl

theorem State.anyBusy_startSettle : s.startSettle.anyBusy = s.anyBusy := rfl

theorem State.enterResetting_of_resetting (hp : s.partState = .resetting) : s.enterResetting = s := if_pos hp

theorem State.enterResetting_of_not_resetting (hp : s.partState ≠ .resetting) :
    s.enterResetting = s.windDown.startSettle.checkSettle := if_neg hp

/-- With a tag or slot BUSY the settle wait runs. -/
theorem State.enterResetting_of_busy (hp : s.partState ≠ .resetting) (hb : s.anyBusy = true) :
    s.enterResetting = s.windDown.startSettle := by
  rw [State.enterResetting_of_not_resetting hp]
  exact State.checkSettle_of_busy (by rwa [State.anyBusy_startSettle, State.anyBusy_windDown])

/-- With nothing BUSY the settle wait ends in the event that starts it. -/
theorem State.enterResetting_of_idle (hp : s.partState ≠ .resetting) (hb : s.anyBusy = false) :
    s.enterResetting = s.endSettle := by
  have hsettled : s.windDown.startSettle.settled = s.settled := by
    rw [State.settled_startSettle, State.settled_windDown]
  rw [State.enterResetting_of_not_resetting hp,
    State.checkSettle_of_idle rfl (by rwa [State.anyBusy_startSettle, State.anyBusy_windDown]),
    State.endSettle_congr hsettled]

end Sys2Proof.Machine
end

section
/-! SUPPORT. Writes to CONTROL (R195, R197): SOFT_RESET before RUN, each only where it has effect. -/

namespace Sys2Proof.Machine

variable {s : State} {w : Word}

theorem exec_registerWrite_control : exec (.registerWrite 0x04 4 w) s = exec (.run w) s := rfl

theorem exec_softReset_eq_exec_run : exec (.softReset w) s = exec (.run w) s := rfl

theorem exec_run_of_released (hr : s.resetHeld = false) :
    exec (.run w) s = .next (s.writeControl w).acceptOffers :=
  congrArg _ (State.live_of_released hr _)

/-! ### SOFT_RESET and RUN -/

theorem State.writeControl_of_softReset (h1 : w.getLsbD 1 = true) : s.writeControl w = s.enterResetting := if_pos h1

theorem State.writeControl_of_run (h1 : w.getLsbD 1 = false) (h0 : w.getLsbD 0 = true) :
    s.writeControl w = s.takeRun := (if_neg (Bool.eq_false_iff.1 h1)).trans (if_pos h0)

theorem State.writeControl_of_neither (h1 : w.getLsbD 1 = false) (h0 : w.getLsbD 0 = false) :
    s.writeControl w = s := (if_neg (Bool.eq_false_iff.1 h1)).trans (if_neg (Bool.eq_false_iff.1 h0))

theorem State.takeRun_of_dormant (hp : s.partState = .dormant) : s.takeRun = s.enterStarting := if_pos hp

theorem State.takeRun_of_not_dormant (hp : s.partState ≠ .dormant) : s.takeRun = s := if_neg hp

/-! ### The acceptance after it -/

/-- Between events nothing is left to accept (R128). -/
theorem State.OfferInv.acceptOffers (h : s.OfferInv) : s.acceptOffers = s := State.acceptOffers_of_settled h.settled

/-! ### The obligation -/

/-- Settles O11: SOFT_RESET enters RESETTING, with the settle wait running or at its end; without it RUN acts in DORMANT
alone, and what has no effect leaves the part as it is. -/
theorem controlWritten : Obligations.ControlWritten := by
  intro s w hr
  have hexec : exec (.run w) s = .next (s.writeControl w).acceptOffers := exec_run_of_released hr
  refine ⟨fun t => by rw [exec_registerWrite_control],
    fun t => by rw [exec_registerWrite_control, exec_softReset_eq_exec_run], fun h1 hp => ?_, fun h1 hp => ?_,
    fun h1 h0 hp => ?_, fun h1 h0 hp hi => ?_, fun h1 h0 hi => ?_⟩
  · rw [exec_softReset_eq_exec_run, hexec, State.writeControl_of_softReset h1]
    refine ⟨_, rfl, fun hb => ?_, fun hb => ?_⟩
    · rw [State.enterResetting_of_busy hp hb, State.acceptOffers_of_not_running (by simp [State.startSettle])]
      exact ⟨rfl, rfl⟩
    · have hdormant : s.DormantFrom s.endSettle := State.dormantFrom_endSettle
      have ⟨hstate, _⟩ := hdormant.partState
      rwa [State.enterResetting_of_idle hp hb, State.acceptOffers_of_not_running (by simp [hstate])]
  · rw [exec_softReset_eq_exec_run, hexec, State.writeControl_of_softReset h1, State.enterResetting_of_resetting hp,
      State.acceptOffers_of_not_running (by simp [hp])]
  · rw [hexec, State.writeControl_of_run h1 h0, State.takeRun_of_dormant hp,
      State.acceptOffers_of_not_running (by simp [State.enterStarting])]
    rfl
  · rw [hexec, State.writeControl_of_run h1 h0, State.takeRun_of_not_dormant hp, hi.acceptOffers]
  · rw [hexec, State.writeControl_of_neither h1 h0, hi.acceptOffers]

end Sys2Proof.Machine
end
